-- ==== Sys2Proof/Word.lean ====
section
/-!
DEFINITION. The octet and the 16-bit word of the spec (00_scope.md R10: `u8`, `u16`, all unsigned).
-/

namespace Sys2Proof

/-- An octet, the spec's `u8` (R10). Every array element, address and frame field is one. -/
abbrev Byte := BitVec 8

/-- The spec's `u16` (R10): lengths, the octet index and the CRC-16 accumulator. -/
abbrev Half := BitVec 16

end Sys2Proof
end

