-- ==== Sys2Proof/Machine/Event.lean ====
section
/-!
DEFINITION. The operands of the host's operations and the atomic steps of the agents
(00_scope.md R3, 20_memory.md R90, 30_encoding.md R141). An event is data: the order in which events
happen is no state of the block (10_state.md R44) but an input of the machine.
-/

namespace Sys2Proof.Machine

/-- An array of `MAX_MAC_LEN` octets (10_state.md R40). `MAX_MAC_LEN` is at least 1 (00_scope.md R7),
so the array always has the octet `[0]`, its `first`; `rest` holds the octets from `[1]` on. -/
structure MacOctets where
  first : Byte
  rest : List Byte
  deriving DecidableEq, Repr, Inhabited

/-- **BacnetAddress** (10_state.md R40): `mac[0..mac_len)` and `adr[0..len)` are the meaningful octets. -/
structure BacnetAddress where
  mac : MacOctets
  mac_len : Byte
  net : Half
  len : Byte
  adr : MacOctets
  deriving DecidableEq, Repr, Inhabited

/-- One atomic step of one agent, with its operands (30_encoding.md R141). A step whose precondition
does not hold does not exist (20_memory.md R95); an event that asks for one leaves the block as it is. -/
inductive Event where
  /-- TICK: one elapsed millisecond (41_silence_tracker.md R183). -/
  | tick
  /-- The enabled step of RX: RX_REARM, RX_BYTE or RX_ABORT (42_receive_fsm.md R190). -/
  | rx
  /-- NODE_STEP (43_master_fsm.md R230). -/
  | node
  /-- PORT_RX(b): the Port Adapter appends a received octet to `rx_stream` (47 R365). -/
  | portRx (b : Byte)
  /-- PORT_TX: the Port Adapter removes the head of `tx_stream` (47 R366). -/
  | portTx
  /-- SEND(dest, pdu, expects_reply) (47 R351). -/
  | send (dest : BacnetAddress) (pdu : List Byte) (expectsReply : Bool)
  /-- RECEIVE() (47 R352). -/
  | receive
  /-- The host calls receive(timeout_ms) (47 R353). -/
  | receiveCall (timeout : Nat)
  /-- The host's outstanding receive(timeout_ms) call looks again (47 R353). -/
  | receiveRetry
  /-- set_mac_address(a) (47 R354). -/
  | setMacAddress (a : Byte)
  /-- mac_address() (47 R355). -/
  | macAddress
  /-- set_max_master(m) (47 R356). -/
  | setMaxMaster (m : Byte)
  /-- max_master() (47 R357). -/
  | maxMaster
  /-- set_max_info_frames(n) (47 R358). -/
  | setMaxInfoFrames (n : Byte)
  /-- max_info_frames() (47 R359). -/
  | maxInfoFrames
  /-- fill_broadcast_address() (47 R360). -/
  | fillBroadcastAddress
  /-- fill_address(mac) (47 R361). -/
  | fillAddress (mac : Byte)
  /-- RESET (70_reset_and_hazards.md R410). -/
  | reset
  deriving DecidableEq, Repr, Inhabited

end Sys2Proof.Machine
end

