-- ==== Sys2Proof/Config.lean ====
section
/-!
DEFINITION. The implementation parameters of 00_scope.md R7 and the values the spec leaves open.
A parameter marked OPEN there is a field of `Config`; the machine holds one `Config` in its state and no
step writes it, so a statement about every state is a statement about every configuration. The
`opaque` constants are free values: they have no body, so nothing can be proved about a value of theirs.
-/

namespace Sys2Proof

/-- The OPEN parameters of 00_scope.md R7, under the spec's names. -/
structure Config where
  /-- `MAX_PDU`: the size of the octet buffers. -/
  maxPdu : Nat
  /-- `QUEUE_CAP`: the capacity of the Outgoing PDU Queue. -/
  queueCap : Nat
  /-- `MAX_MAC_LEN`: the size of the arrays of a BacnetAddress. -/
  maxMacLen : Nat
  /-- `T_NO_TOKEN`, in milliseconds. -/
  tNoToken : Nat
  /-- `T_SLOT`, in milliseconds. -/
  tSlot : Nat
  /-- `T_REPLY_TIMEOUT`, in milliseconds. -/
  tReplyTimeout : Nat
  /-- `T_USAGE_TIMEOUT`, in milliseconds. -/
  tUsageTimeout : Nat
  /-- `T_FRAME_ABORT`, in milliseconds. -/
  tFrameAbort : Nat
  /-- `SILENCE_W`: the width of the silence counter in bits. -/
  silenceW : Nat
  /-- `RING_EXPAND`. -/
  ringExpand : Bool
  /-- `DER_TIMEOUT_RETAIN`. -/
  derTimeoutRetain : Bool
  deriving DecidableEq, Repr

/-- The default values of the table of 00_scope.md R7 (its GK defaults; `T_FRAME_ABORT` is the value of
the test configurations of 95_test_vectors.md). PRESUMED: suggestions for a test configuration (entry 4). -/
def Config.default : Config where
  maxPdu := 501
  queueCap := 8
  maxMacLen := 7
  tNoToken := 500
  tSlot := 10
  tReplyTimeout := 255
  tUsageTimeout := 20
  tFrameAbort := 30
  silenceW := 16
  ringExpand := true
  derTimeoutRetain := false

/-- `OUT_CAP = MAX_PDU + 10` (00_scope.md R7, 10_state.md R36). -/
def Config.outCap (c : Config) : Nat := c.maxPdu + 10

/-- The greatest value of the silence counter, `2^SILENCE_W - 1` (41_silence_tracker.md R183). -/
def Config.silenceMax (c : Config) : Nat := 2 ^ c.silenceW - 1

/-- The constraints 00_scope.md R7 places on the parameters. -/
structure Config.Legal (c : Config) : Prop where
  maxPdu_pos : 1 ≤ c.maxPdu
  maxPdu_le : c.maxPdu ≤ 65535
  queueCap_pos : 1 ≤ c.queueCap
  maxMacLen_pos : 1 ≤ c.maxMacLen
  tNoToken_pos : 1 ≤ c.tNoToken
  tReplyTimeout_pos : 1 ≤ c.tReplyTimeout
  tUsageTimeout_pos : 1 ≤ c.tUsageTimeout
  tFrameAbort_pos : 1 ≤ c.tFrameAbort
  claim_fits : c.tNoToken + c.tSlot * 127 ≤ c.silenceMax
  reply_fits : c.tReplyTimeout ≤ c.silenceMax
  usage_fits : c.tUsageTimeout ≤ c.silenceMax
  abort_fits : c.tFrameAbort ≤ c.silenceMax

/-- `BROADCAST_MAC` (00_scope.md R7). -/
def Config.broadcastMac : Byte := 0xFF

/-- `BROADCAST_NET` (00_scope.md R7). -/
def Config.broadcastNet : Half := 0xFFFF

/-- `RECEIVE_TIMEOUT_MAX`, in milliseconds (00_scope.md R7). -/
def Config.receiveTimeoutMax : Nat := 1000

/-- `RESET_THIS_STATION` (00_scope.md R7). -/
def Config.resetThisStation : Byte := 255

/-- `RESET_MAX_MASTER` (00_scope.md R7). -/
def Config.resetMaxMaster : Byte := 127

/-- `RESET_MAX_INFO_FRAMES` (00_scope.md R7). -/
def Config.resetMaxInfoFrames : Byte := 1

/-- FREE VALUE: the schedule (10_state.md R44, 20_memory.md R91, 93 I12, I13). `Config.schedule n` is
the step taken when the agenda is empty, `n` such steps have been taken before and neither RX nor NODE is due.
DESIGN CHOICE (entry 2). -/
opaque Config.schedule : Nat → Machine.Event

/-- FREE VALUE: how many free steps more RX may be passed over after it was enabled and passed over in the `n`-th: some
number, and no bound on it is known (20_memory.md R91, 47_external_interfaces.md R368, 93 I13). DESIGN CHOICE (entry 2). -/
opaque Config.rxPatience : Nat → Nat

/-- FREE VALUE: the same for NODE, which is always enabled (43_master_fsm.md R230). DESIGN CHOICE (entry 2). -/
opaque Config.nodePatience : Nat → Nat

/-- FREE VALUE: what the upper layer answers to the `n`-th BUILD_REPLY it is asked beyond `reply_port`,
given the requester's address and the request PDU (47_external_interfaces.md R362, 93 I14). DESIGN CHOICE (entry 7). -/
opaque Config.freeReply : Nat → Byte → List Byte → Option (List Byte)

end Sys2Proof
end

