-- ==== Sys2Proof/Machine/Codec.lean ====
section
/-!
DEFINITION. The Frame Codec (40_frame_codec.md): the two CRC accumulators, frame construction and parsing.
Pure functions. Frame-type codes: 30_encoding.md R117.
-/

namespace Sys2Proof.Machine

/-! ## Frame-type codes (R117) -/

def ftToken : Byte := 0x00
def ftPfm : Byte := 0x01
def ftRpfm : Byte := 0x02
def ftTestRequest : Byte := 0x03
def ftTestResponse : Byte := 0x04
def ftDer : Byte := 0x05
def ftDner : Byte := 0x06
def ftReplyPostponed : Byte := 0x07

/-- The first preamble octet (R111). -/
def preamble1 : Byte := 0x55

/-- The second preamble octet (R111). -/
def preamble2 : Byte := 0xFF

/-! ## CRC accumulators (R150 to R153) -/

/-- `f` applied eight times: "repeat 8 times" of R150 and R152. -/
def eightTimes {α : Type} (f : α → α) (x : α) : α := f (f (f (f (f (f (f (f x)))))))

/-- One round of `CRC8_UPDATE` (R150). -/
def crc8Shift (c : Byte) : Byte :=
  if c.getLsbD 0 then (c >>> 1) ^^^ 0x81 else c >>> 1

/-- `CRC8_UPDATE(d, c)` (R150). -/
def crc8Update (d c : Byte) : Byte := eightTimes crc8Shift (c ^^^ d)

/-- One round of `CRC16_UPDATE` (R152). -/
def crc16Shift (c : Half) : Half :=
  if c.getLsbD 0 then (c >>> 1) ^^^ 0x8408 else c >>> 1

/-- `CRC16_UPDATE(d, c)` (R152). -/
def crc16Update (d : Byte) (c : Half) : Half := eightTimes crc16Shift (c ^^^ d.setWidth 16)

/-- The CRC-8 accumulator after the octets `bs` in order, from `c` (R151). -/
def crc8Over (c : Byte) (bs : List Byte) : Byte := bs.foldl (fun c b => crc8Update b c) c

/-- The CRC-16 accumulator after the octets `bs` in order, from `c` (R153). -/
def crc16Over (c : Half) (bs : List Byte) : Half := bs.foldl (fun c b => crc16Update b c) c

/-- The value both sides load the CRC-8 accumulator with (R151). -/
def crc8Init : Byte := 0xFF

/-- The value both sides load the CRC-16 accumulator with (R153). -/
def crc16Init : Half := 0xFFFF

/-- The CRC-8 accumulator of a correct header (R151). -/
def crc8Residue : Byte := 0x55

/-- The CRC-16 accumulator of correct data (R153). -/
def crc16Residue : Half := 0xF0B8

/-- The high octet of a 16-bit value: `n[15:8]` (R10). -/
def hiOctet (n : Half) : Byte := n.extractLsb' 8 8

/-- The low octet of a 16-bit value: `n[7:0]` (R10). -/
def loOctet (n : Half) : Byte := n.extractLsb' 0 8

/-- `hi * 256 + lo` (R113). -/
def joinOctets (hi lo : Byte) : Half := hi ++ lo

/-- The five octets the header CRC covers, in wire order (R112). -/
def coveredOctets (ft dst src : Byte) (len : Half) : List Byte :=
  [ft, dst, src, hiOctet len, loOctet len]

/-- The `header_crc` octet the transmit side computes (R114, R151). -/
def headerCrc (ft dst src : Byte) (len : Half) : Byte :=
  crc8Over crc8Init (coveredOctets ft dst src len) ^^^ 0xFF

/-- The data CRC the transmit side computes (R115, R153). -/
def dataCrc (data : List Byte) : Half := crc16Over crc16Init data ^^^ 0xFFFF

/-- The receive side's header check (R151): five covered octets, then the received CRC octet. -/
def headerOk (ft dst src : Byte) (len : Half) (hcrc : Byte) : Bool :=
  crc8Over crc8Init (coveredOctets ft dst src len ++ [hcrc]) == crc8Residue

/-- One round of `CRC8_UPDATE` undone: bit 7 of `0x81` is 1, so bit 7 after a round tells whether the
round folded the polynomial in. DEDUCED from R150 (entry 13). -/
def crc8Unshift (c : Byte) : Byte :=
  if c.getLsbD 7 then ((c ^^^ 0x81) <<< 1) ||| 1 else c <<< 1

/-- The octet that took the accumulator from `before` to `after` (entry 13). -/
def crc8Received (before after : Byte) : Byte := eightTimes crc8Unshift after ^^^ before

/-! ## Construction (R154, R155) -/

/-- The number of octets of a frame with `n` data octets (R116). -/
def frameLength (n : Nat) : Nat := 8 + n + (if n > 0 then 2 else 0)

/-- The eight octets of a frame up to its header CRC (R110). -/
def headerOctets (ft dst src : Byte) (len : Half) (hcrc : Byte) : List Byte :=
  [preamble1, preamble2] ++ coveredOctets ft dst src len ++ [hcrc]

/-- `CONSTRUCT_FRAME(ft, dst, src, data, cap)` (R154), with the capacity refusal of R155. The operand
`data` has at most 65535 octets (R154, 93 I17). -/
def constructFrame (ft dst src : Byte) (data : List Byte) (cap : Nat) : List Byte :=
  if frameLength data.length > cap then []
  else
    let len : Half := BitVec.ofNat 16 data.length
    let header := headerOctets ft dst src len (headerCrc ft dst src len)
    if data.length > 0 then
      header ++ data ++ [loOctet (dataCrc data), hiOctet (dataCrc data)]
    else header

/-! ## Parsing (R156, R157) -/

/-- `PARSE_HEADER(bytes)` (R156): frame type, destination, source and length. It checks nothing and is not
defined on fewer than 8 octets. -/
def parseHeader : List Byte → Option (Byte × Byte × Byte × Half)
  | _ :: _ :: ft :: dst :: src :: hi :: lo :: _ :: _ => some (ft, dst, src, joinOctets hi lo)
  | _ => none

/-- `PARSE_FRAME(bytes)` (R157): the parse of the round-trip property. -/
def parseFrame : List Byte → Option (Byte × Byte × Byte × List Byte)
  | p1 :: p2 :: ft :: dst :: src :: hi :: lo :: hcrc :: body =>
    let n := (joinOctets hi lo).toNat
    if p1 != preamble1 || p2 != preamble2 then none
    else if crc8Over crc8Init [ft, dst, src, hi, lo, hcrc] != crc8Residue then none
    else if n = 0 then (if body.isEmpty then some (ft, dst, src, []) else none)
    else if body.length != n + 2 then none
    else if crc16Over crc16Init body != crc16Residue then none
    else some (ft, dst, src, body.take n)
  | _ => none

end Sys2Proof.Machine
end

