-- ==== Sys2Proof/Syntax.lean ====
section
/-!
DEFINITION. The instructions: one constructor per row of opcode_table.json (30_encoding.md R142).
A frame row is the eight octets up to the header CRC, so its operands are the fields `d`, `s`, `h l`, `c` of
the row's pattern (R110) and the free type bits `t` of a range row; the data octets of a frame are a
memory operand, not part of the word. A PDU row is one octet; its operands are the octet's free bits.
-/

namespace Sys2Proof

/-- What MSTP-CORE decodes (30_encoding.md R117, R131, R132), in the order of opcode_table.json. -/
inductive Instr where
  /-- `TOKEN`, frame type 0x00 (R118). -/
  | token (dst src : Byte) (len : Half) (hcrc : Byte)
  /-- `PFM`, frame type 0x01 (R119). -/
  | pfm (dst src : Byte) (len : Half) (hcrc : Byte)
  /-- `RPFM`, frame type 0x02 (R120). -/
  | rpfm (dst src : Byte) (len : Half) (hcrc : Byte)
  /-- `TEST_REQUEST`, frame type 0x03 (R123). -/
  | testRequest (dst src : Byte) (len : Half) (hcrc : Byte)
  /-- `TEST_RESPONSE`, frame type 0x04 (R124). -/
  | testResponse (dst src : Byte) (len : Half) (hcrc : Byte)
  /-- `DER`, frame type 0x05 (R121). -/
  | der (dst src : Byte) (len : Half) (hcrc : Byte)
  /-- `DNER`, frame type 0x06 (R122). -/
  | dner (dst src : Byte) (len : Half) (hcrc : Byte)
  /-- `REPLY_POSTPONED`, frame type 0x07 (R125). -/
  | replyPostponed (dst src : Byte) (len : Half) (hcrc : Byte)
  /-- `RESERVED_08_0F`, frame types `00001ttt` (R126). -/
  | reserved08 (t : BitVec 3) (dst src : Byte) (len : Half) (hcrc : Byte)
  /-- `RESERVED_10_1F`, frame types `0001tttt` (R126). -/
  | reserved10 (t : BitVec 4) (dst src : Byte) (len : Half) (hcrc : Byte)
  /-- `RESERVED_20_3F`, frame types `001ttttt` (R126). -/
  | reserved20 (t : BitVec 5) (dst src : Byte) (len : Half) (hcrc : Byte)
  /-- `RESERVED_40_7F`, frame types `01tttttt` (R126). -/
  | reserved40 (t : BitVec 6) (dst src : Byte) (len : Half) (hcrc : Byte)
  /-- `PROPRIETARY_80_FF`, frame types `1ttttttt` (R127). -/
  | proprietary (t : BitVec 7) (dst src : Byte) (len : Half) (hcrc : Byte)
  /-- `APDU_CONFIRMED_REQUEST`, `0000gmax` (R133). -/
  | apduConfirmedRequest (seg mor sa x : Bool)
  /-- `APDU_UNCONFIRMED_REQUEST`, `0001xxxx` (R132). -/
  | apduUnconfirmedRequest (x : BitVec 4)
  /-- `APDU_SIMPLE_ACK`, `0010xxxx` (R134). -/
  | apduSimpleAck (x : BitVec 4)
  /-- `APDU_COMPLEX_ACK`, `0011gmxx` (R134). -/
  | apduComplexAck (seg mor : Bool) (x : BitVec 2)
  /-- `APDU_SEGMENT_ACK`, `0100xxnv` (R135). -/
  | apduSegmentAck (x : BitVec 2) (nak srv : Bool)
  /-- `APDU_ERROR`, `0101xxxx` (R134). -/
  | apduError (x : BitVec 4)
  /-- `APDU_REJECT`, `0110xxxx` (R135). -/
  | apduReject (x : BitVec 4)
  /-- `APDU_ABORT`, `0111xxxv` (R135). -/
  | apduAbort (x : BitVec 3) (srv : Bool)
  /-- `APDU_RESERVED_80_FF`, `1xxxxxxx` (R132). -/
  | apduReserved (x : BitVec 7)
  /-- `NPDU_CONTROL`, `nrdrsepp` (R131). -/
  | npduControl (nlm reserved6 dstPresent reserved4 srcPresent expectingReply : Bool) (priority : BitVec 2)
  deriving DecidableEq, Repr

end Sys2Proof
end

