-- ==== Sys2Proof/WellFormed.lean ====
section
/-!
DEFINITION. When an instruction has the form the spec's layouts give it. The decoder refuses none of the
ill-formed ones (30_encoding.md R129: every octet value decodes; 93 I18: spare APDU bits are not read); what
an ill-formed frame header meets is the receiver's header check (42_receive_fsm.md R201). Entry 21.
-/

namespace Sys2Proof

/-- The frame-type octet of a frame row (30_encoding.md R117); none for a PDU row. -/
def Instr.frameType : Instr → Option Byte
  | .token .. => some 0x00
  | .pfm .. => some 0x01
  | .rpfm .. => some 0x02
  | .testRequest .. => some 0x03
  | .testResponse .. => some 0x04
  | .der .. => some 0x05
  | .dner .. => some 0x06
  | .replyPostponed .. => some 0x07
  | .reserved08 t .. => some (0b00001#5 ++ t)
  | .reserved10 t .. => some (0b0001#4 ++ t)
  | .reserved20 t .. => some (0b001#3 ++ t)
  | .reserved40 t .. => some (0b01#2 ++ t)
  | .proprietary t .. => some (0b1#1 ++ t)
  | .apduConfirmedRequest .. | .apduUnconfirmedRequest .. | .apduSimpleAck .. | .apduComplexAck ..
  | .apduSegmentAck .. | .apduError .. | .apduReject .. | .apduAbort .. | .apduReserved ..
  | .npduControl .. => none

/-- The destination, source, length and header CRC octet of a frame row; none for a PDU row. -/
def Instr.header : Instr → Option (Byte × Byte × Half × Byte)
  | .token d s n c | .pfm d s n c | .rpfm d s n c | .testRequest d s n c | .testResponse d s n c
  | .der d s n c | .dner d s n c | .replyPostponed d s n c => some (d, s, n, c)
  | .reserved08 _ d s n c => some (d, s, n, c)
  | .reserved10 _ d s n c => some (d, s, n, c)
  | .reserved20 _ d s n c => some (d, s, n, c)
  | .reserved40 _ d s n c => some (d, s, n, c)
  | .proprietary _ d s n c => some (d, s, n, c)
  | .apduConfirmedRequest .. | .apduUnconfirmedRequest .. | .apduSimpleAck .. | .apduComplexAck ..
  | .apduSegmentAck .. | .apduError .. | .apduReject .. | .apduAbort .. | .apduReserved ..
  | .npduControl .. => none

/-- A frame row is well-formed when its header CRC is right (10_state.md R41, 30_encoding.md R114); an APDU
row when the bits its layout fixes at 0 are 0 (30_encoding.md R133 to R135); every value of an
unconfirmed-request or reserved APDU octet and of the NPDU control octet is (R131, R132). -/
def Instr.wellFormed (i : Instr) : Bool :=
  match i with
  | .apduConfirmedRequest _ _ _ x => x == false
  | .apduSimpleAck x | .apduError x | .apduReject x => x == 0
  | .apduComplexAck _ _ x => x == 0
  | .apduSegmentAck x _ _ => x == 0
  | .apduAbort x _ => x == 0
  | .apduUnconfirmedRequest _ | .apduReserved _ | .npduControl .. => true
  | .token d s n c => Machine.headerOk 0x00 d s n c
  | .pfm d s n c => Machine.headerOk 0x01 d s n c
  | .rpfm d s n c => Machine.headerOk 0x02 d s n c
  | .testRequest d s n c => Machine.headerOk 0x03 d s n c
  | .testResponse d s n c => Machine.headerOk 0x04 d s n c
  | .der d s n c => Machine.headerOk 0x05 d s n c
  | .dner d s n c => Machine.headerOk 0x06 d s n c
  | .replyPostponed d s n c => Machine.headerOk 0x07 d s n c
  | .reserved08 t d s n c => Machine.headerOk (0b00001#5 ++ t) d s n c
  | .reserved10 t d s n c => Machine.headerOk (0b0001#4 ++ t) d s n c
  | .reserved20 t d s n c => Machine.headerOk (0b001#3 ++ t) d s n c
  | .reserved40 t d s n c => Machine.headerOk (0b01#2 ++ t) d s n c
  | .proprietary t d s n c => Machine.headerOk (0b1#1 ++ t) d s n c

end Sys2Proof
end

