-- ==== Sys2Proof/Decode.lean ====
section
/-!
DEFINITION. The decoder and, after it, the encoder (30_encoding.md R110, R117, R130 to R135, R142). A frame is
decoded from the octets on the wire; an APDU's octet 0 and the NPDU control octet are decoded where the
Reply Correlator finds them, because only their position in a PDU says which of the two an octet is.
-/

namespace Sys2Proof

/-- Why octets are no frame header. Each is a refusal to decode and changes no state (safe). -/
inductive DecodeError where
  /-- Fewer than the eight octets R110 needs. -/
  | tooShort
  /-- The first octet is not `0x55` (R111). -/
  | noPreamble1
  /-- The second octet is not `0xFF` (R111). -/
  | noPreamble2
  /-- There is no octet where a PDU octet is to be decoded. -/
  | noOctet
  deriving DecidableEq, Repr

/-- The frame row selected by the frame-type octet, with its operands (R117: all 256 codes decode). -/
def decodeHeader (ft dst src : Byte) (len : Half) (hcrc : Byte) : Instr :=
  if ft = 0x00 then .token dst src len hcrc
  else if ft = 0x01 then .pfm dst src len hcrc
  else if ft = 0x02 then .rpfm dst src len hcrc
  else if ft = 0x03 then .testRequest dst src len hcrc
  else if ft = 0x04 then .testResponse dst src len hcrc
  else if ft = 0x05 then .der dst src len hcrc
  else if ft = 0x06 then .dner dst src len hcrc
  else if ft = 0x07 then .replyPostponed dst src len hcrc
  else if ft &&& 0xF8 = 0x08 then .reserved08 (ft.extractLsb' 0 3) dst src len hcrc
  else if ft &&& 0xF0 = 0x10 then .reserved10 (ft.extractLsb' 0 4) dst src len hcrc
  else if ft &&& 0xE0 = 0x20 then .reserved20 (ft.extractLsb' 0 5) dst src len hcrc
  else if ft &&& 0xC0 = 0x40 then .reserved40 (ft.extractLsb' 0 6) dst src len hcrc
  else .proprietary (ft.extractLsb' 0 7) dst src len hcrc

/-- The frame row in the first eight octets, and the octets after them (R110). -/
def decodeFrame : List Byte → Except DecodeError (Instr × List Byte)
  | p1 :: p2 :: ft :: dst :: src :: hi :: lo :: hcrc :: rest =>
    if p1 ≠ Machine.preamble1 then .error .noPreamble1
    else if p2 ≠ Machine.preamble2 then .error .noPreamble2
    else .ok (decodeHeader ft dst src (Machine.joinOctets hi lo) hcrc, rest)
  | _ => .error .tooShort

/-- The APDU row of octet `a[0]` (R132): `a[0][7:4]` is the PDU type. -/
def decodeApdu (a : Byte) : Instr :=
  match a.extractLsb' 4 4 with
  | 0x0 => .apduConfirmedRequest (a.getLsbD 3) (a.getLsbD 2) (a.getLsbD 1) (a.getLsbD 0)
  | 0x1 => .apduUnconfirmedRequest (a.extractLsb' 0 4)
  | 0x2 => .apduSimpleAck (a.extractLsb' 0 4)
  | 0x3 => .apduComplexAck (a.getLsbD 3) (a.getLsbD 2) (a.extractLsb' 0 2)
  | 0x4 => .apduSegmentAck (a.extractLsb' 2 2) (a.getLsbD 1) (a.getLsbD 0)
  | 0x5 => .apduError (a.extractLsb' 0 4)
  | 0x6 => .apduReject (a.extractLsb' 0 4)
  | 0x7 => .apduAbort (a.extractLsb' 1 3) (a.getLsbD 0)
  | _ => .apduReserved (a.extractLsb' 0 7)

/-- The NPDU control row of octet `p[1]` (R131). -/
def decodeNpduControl (c : Byte) : Instr :=
  .npduControl (c.getLsbD 7) (c.getLsbD 6) (c.getLsbD 5) (c.getLsbD 4) (c.getLsbD 3) (c.getLsbD 2)
    (c.extractLsb' 0 2)

/-- Where an encoded item stands: on the wire, at `a[0]` of an APDU, or at `p[1]` of a PDU (R142). -/
inductive Position where
  | wire
  | apdu
  | npdu
  deriving DecidableEq, Repr

/-- The decoder: the instruction that starts the octets at the given position, and what follows it. -/
def decode : Position → List Byte → Except DecodeError (Instr × List Byte)
  | .wire, bs => decodeFrame bs
  | .apdu, a :: rest => .ok (decodeApdu a, rest)
  | .npdu, c :: rest => .ok (decodeNpduControl c, rest)
  | .apdu, [] => .error .noOctet
  | .npdu, [] => .error .noOctet

/-- The position at which an instruction is decoded. -/
def Instr.position : Instr → Position
  | .token .. | .pfm .. | .rpfm .. | .testRequest .. | .testResponse .. | .der .. | .dner ..
  | .replyPostponed .. | .reserved08 .. | .reserved10 .. | .reserved20 .. | .reserved40 ..
  | .proprietary .. => .wire
  | .apduConfirmedRequest .. | .apduUnconfirmedRequest .. | .apduSimpleAck .. | .apduComplexAck ..
  | .apduSegmentAck .. | .apduError .. | .apduReject .. | .apduAbort .. | .apduReserved .. => .apdu
  | .npduControl .. => .npdu

/-! ## The encoder -/

/-- One bit, most significant first, in an octet written as a row of `encoding` is. -/
def bit (b : Bool) : BitVec 1 := BitVec.ofBool b

/-- The octets of an instruction, from the `encoding` column of its row. -/
def encode : Instr → List Byte
  | .token d s n c => Machine.headerOctets 0x00 d s n c
  | .pfm d s n c => Machine.headerOctets 0x01 d s n c
  | .rpfm d s n c => Machine.headerOctets 0x02 d s n c
  | .testRequest d s n c => Machine.headerOctets 0x03 d s n c
  | .testResponse d s n c => Machine.headerOctets 0x04 d s n c
  | .der d s n c => Machine.headerOctets 0x05 d s n c
  | .dner d s n c => Machine.headerOctets 0x06 d s n c
  | .replyPostponed d s n c => Machine.headerOctets 0x07 d s n c
  | .reserved08 t d s n c => Machine.headerOctets (0b00001#5 ++ t) d s n c
  | .reserved10 t d s n c => Machine.headerOctets (0b0001#4 ++ t) d s n c
  | .reserved20 t d s n c => Machine.headerOctets (0b001#3 ++ t) d s n c
  | .reserved40 t d s n c => Machine.headerOctets (0b01#2 ++ t) d s n c
  | .proprietary t d s n c => Machine.headerOctets (0b1#1 ++ t) d s n c
  | .apduConfirmedRequest g m a x => [0b0000#4 ++ bit g ++ bit m ++ bit a ++ bit x]
  | .apduUnconfirmedRequest x => [0b0001#4 ++ x]
  | .apduSimpleAck x => [0b0010#4 ++ x]
  | .apduComplexAck g m x => [0b0011#4 ++ bit g ++ bit m ++ x]
  | .apduSegmentAck x n v => [0b0100#4 ++ x ++ bit n ++ bit v]
  | .apduError x => [0b0101#4 ++ x]
  | .apduReject x => [0b0110#4 ++ x]
  | .apduAbort x v => [0b0111#4 ++ x ++ bit v]
  | .apduReserved x => [0b1#1 ++ x]
  | .npduControl n r6 d r4 s e p => [bit n ++ bit r6 ++ bit d ++ bit r4 ++ bit s ++ bit e ++ p]

/-! ## The words of opcode_table.json -/

/-- The eight octets of a 64-bit table word, octet 0 most significant (R142). -/
def wordOctets (w : Nat) : List Byte :=
  [BitVec.ofNat 8 (w >>> 56), BitVec.ofNat 8 (w >>> 48), BitVec.ofNat 8 (w >>> 40),
   BitVec.ofNat 8 (w >>> 32), BitVec.ofNat 8 (w >>> 24), BitVec.ofNat 8 (w >>> 16),
   BitVec.ofNat 8 (w >>> 8), BitVec.ofNat 8 w]

/-- The octets of a frame whose header is a table word and whose every later octet is 0: a header with a
right CRC and a length `n > 0` is followed by `n` data octets and two data CRC octets (R110, R116). -/
def wordFrameOctets (w : Nat) : List Byte :=
  match wordOctets w with
  | [_, _, ft, dst, src, hi, lo, hcrc] =>
    let n := (Machine.joinOctets hi lo).toNat
    wordOctets w ++
      (if Machine.headerOk ft dst src (Machine.joinOctets hi lo) hcrc && n != 0
       then List.replicate (n + 2) 0 else [])
  | other => other

/-- The instruction the decoder reads from a word of opcode_table.json: a 64-bit word is a frame, an 8-bit
word an APDU octet 0 (the NPDU control octet has the same 256 values; entry 11). -/
def decodeTableWord (nbits w : Nat) : Option Instr :=
  if nbits = 64 then
    match decode .wire (wordFrameOctets w) with
    | .ok (i, _) => some i
    | .error _ => none
  else if nbits = 8 then some (decodeApdu (BitVec.ofNat 8 w))
  else none

end Sys2Proof
end

