-- ==== Sys2Proof/Machine/State.lean ====
section
/-!
DEFINITION. The architectural state of MSTP-CORE (10_state.md) as plain data, under the spec's own names,
the reasons a step can stop, and the state after reset (10_state.md R46).
-/

namespace Sys2Proof.Machine

/-- `rx_state` (10_state.md R25), in the order of its codes 0 to 7. -/
inductive RxState where
  | idle
  | preamble1
  | preamble2
  | header
  | headerCrcCheck
  | data
  | dataCrcCheck
  | done
  deriving DecidableEq, Repr

/-- `master_state` (10_state.md R26), in the order of its codes 0 to 7. -/
inductive MasterState where
  | idle
  | useToken
  | waitForReply
  | doneWithToken
  | passToken
  | noToken
  | pollForMaster
  | answerDataRequest
  deriving DecidableEq, Repr

/-- One octet array of 10_state.md R43 as (index, octet) cells with strictly rising indices. An octet that is
not listed has not been written and has no value (10_state.md R46; entry 6). -/
abbrev Memory := List Host.Cell

/-- **Outgoing PDU Entry** (10_state.md R38): `payload[0..length)` is meaningful. -/
structure Entry where
  payload : Memory
  length : Half
  destination_mac : Byte
  expects_reply : Bool
  deriving DecidableEq, Repr

/-- The return value of the last host operation (47_external_interfaces.md), an output (entry 14). -/
inductive HostResult where
  /-- The operation returns nothing (R354, R356, R358), or none has been performed. -/
  | nothing
  /-- `bytes_accepted` of SEND (R351). -/
  | bytesAccepted (n : Nat)
  /-- What RECEIVE or receive returns: a packet, or none (R352, R353). -/
  | packet (p : Option (BacnetAddress × List Byte))
  /-- receive(timeout_ms) is waiting (R353). -/
  | waiting
  /-- The value of a configuration register (R355, R357, R359). -/
  | octet (b : Byte)
  /-- An address (R360, R361). -/
  | address (a : BacnetAddress)
  deriving DecidableEq, Repr

/-- Why the machine stops with a fault. No rule of the spec reaches either (20_memory.md R83, 10_state.md R45
item 5); both are safe: the model stops where it would otherwise have to invent an octet. -/
inductive Fault where
  /-- A read of an octet nothing has written (10_state.md R46: "treat a read of it before a write as a
  fault"). Raised by every read of an octet array. Safe. -/
  | unwrittenOctet
  /-- An access beyond the end of an octet array (20_memory.md R83: "a model may treat one as a fault").
  Raised by every read of an octet array. Safe. -/
  | outsideArray
  deriving DecidableEq, Repr

/-- Why a step has no meaning. -/
inductive Refusal where
  /-- The instruction has no meaning yet. Raised by `exec` only. Safe. -/
  | notModelled (mnemonic : String)
  /-- The upper layer answered BUILD_REPLY outside its contract: an empty reply or one longer than `MAX_PDU`
  (47 R362; 93 I14: "`refuse` (the host is assumed never to do it)"). Raised by `answer`. Safe. -/
  | replyOutsideContract
  deriving DecidableEq, Repr

/-- The state of one instance (10_state.md R20), zone by zone (R21), then the outputs the spec says are no
state (R44), then the model's own fields. -/
structure State where
  /-- The parameters of 00_scope.md R7; no step writes them (entry 4). -/
  cfg : Config
  -- zone CONFIG
  this_station : Byte
  max_master : Byte
  max_info_frames : Byte
  -- zone SILENCE: never above `2^SILENCE_W - 1` (entry 16)
  silence_ms : Nat
  -- zone RX
  rx_state : RxState
  rx_index : Half
  rx_frame_type : Byte
  rx_destination : Byte
  rx_source : Byte
  rx_data_length : Half
  rx_header_crc : Byte
  rx_data_crc : Half
  input_buffer : Memory
  -- zone HANDOFF
  valid_frame : Bool
  valid_frame_not_for_us : Bool
  invalid_frame : Bool
  -- zone NODE
  master_state : MasterState
  next_station : Byte
  poll_station : Byte
  frame_count : Byte
  output_buffer : Memory
  -- zone QUEUE: `q_count` is the length of `q`
  q : List Entry
  q_head : Nat
  -- zone SLOT
  rp_ready : Bool
  rp_address : BacnetAddress
  rp_payload : Memory
  rp_length : Half
  -- zone PORT
  rx_stream : List Byte
  tx_stream : List Byte
  -- outputs of the last step that had one (entry 14)
  more_work : Bool
  host_result : HostResult
  reply_request : Option (Byte × List Byte)
  -- the model's own fields: the coming steps and how long RX and NODE may still be passed over (entry 2), the
  -- upper layer's coming replies (entry 7) and the host's waiting receive call (entry 15)
  agenda : List Event
  turn : Nat
  rx_wait : Option Nat
  node_wait : Option Nat
  reply_port : List (Option (List Byte))
  asked : Nat
  receive_left : Option Nat
  deriving DecidableEq, Repr

/-- `MAX_MAC_LEN` octets: `first` and zeros (47_external_interfaces.md R360, R361). -/
def macOctets (c : Config) (first : Byte) : MacOctets :=
  { first := first, rest := List.replicate (c.maxMacLen - 1) 0 }

/-- The value the model gives `rp_address` at reset, which the spec leaves unspecified: all fields 0.
DESIGN CHOICE, unsafe (entry 5). -/
def resetAddress (c : Config) : BacnetAddress :=
  { mac := macOctets c 0, mac_len := 0, net := 0, len := 0, adr := macOctets c 0 }

/-- The state after reset of an instance with the parameters `c` (10_state.md R46, 70 R410). The registers the
spec leaves unspecified hold 0 (DESIGN CHOICE, unsafe, entry 5); no octet of an array is written (entry 6). -/
def resetWith (c : Config) : State where
  cfg := c
  this_station := Config.resetThisStation
  max_master := Config.resetMaxMaster
  max_info_frames := Config.resetMaxInfoFrames
  silence_ms := 0
  rx_state := .idle
  rx_index := 0
  rx_frame_type := 0
  rx_destination := 0
  rx_source := 0
  rx_data_length := 0
  rx_header_crc := 0
  rx_data_crc := 0
  input_buffer := []
  valid_frame := false
  valid_frame_not_for_us := false
  invalid_frame := false
  master_state := .idle
  next_station := 255
  poll_station := 255
  frame_count := 0
  output_buffer := []
  q := []
  q_head := 0
  rp_ready := false
  rp_address := resetAddress c
  rp_payload := []
  rp_length := 0
  rx_stream := []
  tx_stream := []
  more_work := false
  host_result := .nothing
  reply_request := none
  agenda := []
  turn := 0
  rx_wait := none
  node_wait := none
  reply_port := []
  asked := 0
  receive_left := none

/-- The machine right after reset, with the default parameters (entry 4) and an empty agenda. -/
def State.reset : State := resetWith Config.default

/-- What a step, an operation or a meaning answers. -/
abbrev Result := Host.Outcome State Fault Refusal

end Sys2Proof.Machine
end

