-- ==== Sys2Proof/Machine/Ops.lean ====
section
/-!
DEFINITION. The named operations the rules share: sequencing of results, the octet arrays (20_memory.md R80 to
R86), the Silence Tracker's interface (41_silence_tracker.md R181, R182), `TRANSMIT` (40_frame_codec.md R158) and
what stands in this block where another machine takes an exception: the discarding of a frame (60 R389).
-/

namespace Sys2Proof.Machine

/-- Goes on with the next state; a fault or a refusal stays. -/
def andThen (r : Result) (k : State → Result) : Result :=
  match r with
  | .next s => k s
  | .fault f => .fault f
  | .refused e => .refused e

/-! ## Octet arrays -/

/-- The octet at an index; none when nothing has written it. -/
def Memory.read : Memory → Nat → Option Byte
  | [], _ => none
  | (k, b) :: rest, a => if a = k then some b else Memory.read rest a

/-- Writes one octet; the cells stay in strictly rising order of their indices. -/
def Memory.write : Memory → Nat → Byte → Memory
  | [], a, b => [(a, b)]
  | (k, v) :: rest, a, b =>
    if a < k then (a, b) :: (k, v) :: rest
    else if a = k then (a, b) :: rest
    else (k, v) :: Memory.write rest a b

/-- Copies octets in index order (20_memory.md R80) to the indices from `a` on. -/
def Memory.writeSeq (m : Memory) (a : Nat) : List Byte → Memory
  | [] => m
  | b :: bs => Memory.writeSeq (m.write a b) (a + 1) bs

/-- The `n` octets from index `a` on; none when one of them has not been written. -/
def Memory.readSeq (m : Memory) (a : Nat) : Nat → Option (List Byte)
  | 0 => some []
  | n + 1 =>
    match m.read a, m.readSeq (a + 1) n with
    | some b, some bs => some (b :: bs)
    | _, _ => none

/-- The canonical form: the indices of the cells rise strictly. (No cell can hold what an unlisted index
reads as, because an unlisted index has no value.) -/
def Memory.wf (m : Memory) : Bool := decide (m.Pairwise (fun x y => x.1 < y.1))

/-- Every listed index lies inside an array of `cap` octets. -/
def Memory.within (m : Memory) (cap : Nat) : Bool := m.all (fun x => x.1 < cap)

/-- The octets `[0..n)` of an array of `cap` octets (20_memory.md R83). -/
def octetsOf (m : Memory) (cap n : Nat) : Except Fault (List Byte) :=
  if n > cap then .error .outsideArray
  else
    match m.readSeq 0 n with
    | some bs => .ok bs
    | none => .error .unwrittenOctet

/-- Goes on with the octets `[0..n)` of an array, or stops with the read's fault. -/
def withOctets (m : Memory) (cap n : Nat) (k : List Byte → Result) : Result :=
  match octetsOf m cap n with
  | .ok bs => k bs
  | .error f => .fault f

/-- Goes on with the data of the frame in the RX registers, `input_buffer[0..len)` (10_state.md R35). -/
def withInput (len : Half) (s : State) (k : List Byte → Result) : Result :=
  withOctets s.input_buffer s.cfg.maxPdu len.toNat k

/-- Goes on with the PDU of a queue entry, `payload[0..length)` (10_state.md R38). -/
def withPayload (e : Entry) (s : State) (k : List Byte → Result) : Result :=
  withOctets e.payload s.cfg.maxPdu e.length.toNat k

/-! ## The Silence Tracker's interface -/

/-- `SILENCE_RESET()` (41 R181). -/
def silenceReset (s : State) : State := { s with silence_ms := 0 }

/-- `SILENCE_READ()` (41 R182). -/
def silenceRead (s : State) : Nat := s.silence_ms

/-! ## Transmission -/

/-- The frame `TRANSMIT` constructs, with `cap = OUT_CAP` (40 R155, R158). -/
def transmitFrame (ft dst src : Byte) (data : List Byte) (s : State) : List Byte :=
  constructFrame ft dst src data s.cfg.outCap

/-- `TRANSMIT(ft, dst, src, data)` (40 R158). An empty frame (R155) sends nothing and resets no counter. -/
def transmit (ft dst src : Byte) (data : List Byte) (s : State) : State :=
  let f := transmitFrame ft dst src data s
  let s := { s with output_buffer := s.output_buffer.writeSeq 0 f }
  if f.length > 0 then silenceReset { s with tx_stream := s.tx_stream ++ f } else s

/-- What `TRANSMIT` returns: the number of octets handed over (40 R158). -/
def transmitted (ft dst src : Byte) (data : List Byte) (s : State) : Nat :=
  (transmitFrame ft dst src data s).length

/-! ## Discarding a frame

The block has no exception entry: nothing is saved, no handler runs, nothing returns (60_exceptions.md R380, R389,
R391). What a detected framing error writes is this one operation (R381). -/

/-- RX gives up the frame in progress: `invalid_frame <- 1`, `rx_state <- IDLE` (42 R197, R201, R206, R207). -/
def discardFrame (s : State) : State := { s with invalid_frame := true, rx_state := .idle }

end Sys2Proof.Machine
end

