-- ==== Sys2Proof/Machine/Operands.lean ====
section
/-!
DEFINITION. What the rules read from the state: the role (10_state.md R22), the addresses (43 R231, R234), and
the frame in the RX registers as the encoded word NODE decodes (10_state.md R41).
-/

namespace Sys2Proof.Machine

/-- `role = MASTER` (10_state.md R22); recomputed from CONFIG at every step. -/
def isMaster (s : State) : Bool := s.this_station.toNat ≤ s.max_master.toNat

/-- `next_addr(a)` (43 R231), computed on naturals. -/
def nextAddr (s : State) (a : Byte) : Byte :=
  BitVec.ofNat 8 ((a.toNat + 1) % (s.max_master.toNat + 1))

/-- `claim_threshold` (43 R234), computed on naturals. -/
def claimThreshold (s : State) : Nat := s.cfg.tNoToken + s.cfg.tSlot * s.this_station.toNat

/-- `for_us` (43 R234). -/
def forUs (dst : Byte) (s : State) : Bool := dst == s.this_station

/-- `bcast` (43 R234). -/
def bcast (dst : Byte) : Bool := dst == Config.broadcastMac

/-- `q_count` (10_state.md R38). -/
def qCount (s : State) : Nat := s.q.length

/-- The header CRC octet RX folded in last, recovered from the accumulator: the octet itself is not retained
(10_state.md R34). DEDUCED (entry 13). -/
def fetchedHeaderCrc (s : State) : Byte :=
  crc8Received
    (crc8Over crc8Init (coveredOctets s.rx_frame_type s.rx_destination s.rx_source s.rx_data_length))
    s.rx_header_crc

/-- The eight octets of the frame in the RX registers, as they came over the wire (30_encoding.md R110). -/
def fetchOctets (s : State) : List Byte :=
  headerOctets s.rx_frame_type s.rx_destination s.rx_source s.rx_data_length (fetchedHeaderCrc s)

/-- The instruction NODE_STEP runs: the frame row of the header registers (entry 1). -/
def fetch (s : State) : Instr :=
  decodeHeader s.rx_frame_type s.rx_destination s.rx_source s.rx_data_length (fetchedHeaderCrc s)

end Sys2Proof.Machine
end

