-- ==== Sys2Proof/Machine/Queue.lean ====
section
/-!
DEFINITION. The Outgoing PDU Queue (45_pdu_queue.md): `q[0]` is the oldest entry. `q_head` is the ring's head index
(10_state.md R38), which no operation reads.
-/

namespace Sys2Proof.Machine

/-- The entry `Q_ENQUEUE` forms (R301). -/
def newEntry (dest : Byte) (data : List Byte) (expectsReply : Bool) : Entry :=
  { payload := Memory.writeSeq [] 0 data
    length := BitVec.ofNat 16 data.length
    destination_mac := dest
    expects_reply := expectsReply }

/-- `Q_ENQUEUE` accepts: the queue is not full and the data fits an entry (R301). -/
def enqueueAccepts (data : List Byte) (s : State) : Bool :=
  qCount s != s.cfg.queueCap && (data.length != 0 && decide (data.length ≤ s.cfg.maxPdu))

/-- `Q_ENQUEUE(dest_mac, data, expects_reply)` (R301): its result and the state after it. -/
def qEnqueue (dest : Byte) (data : List Byte) (expectsReply : Bool) (s : State) : Bool × State :=
  if enqueueAccepts data s then
    (true, { s with q := s.q ++ [newEntry dest data expectsReply] })
  else (false, s)

/-- `Q_PEEK()` (R302). -/
def qPeek (s : State) : Option Entry := s.q.head?

/-- `Q_PEEK_NEXT(k)` (R303). -/
def qPeekNext (k : Nat) (s : State) : Option (Nat × Entry) := (s.q[k + 1]?).map (fun e => (k + 1, e))

/-- The entry `Q_POP_ELEMENT(k)` returns (R305). -/
def qPopped (k : Nat) (s : State) : Option Entry := s.q[k]?

/-- The head index after an entry at position `k` is removed: the ring advances it only for the head (R304,
R305, R308). -/
def nextHead (k : Nat) (s : State) : Nat :=
  if k = 0 ∧ 0 < qCount s then (s.q_head + 1) % s.cfg.queueCap else s.q_head

/-- The effect of `Q_POP_ELEMENT(k)` (R305); with `k >= q_count` nothing. -/
def qPopElement (k : Nat) (s : State) : State :=
  { s with q := s.q.eraseIdx k, q_head := nextHead k s }

/-- The effect of `Q_POP()` (R304): it is `Q_POP_ELEMENT(0)`. -/
def qPop (s : State) : State := qPopElement 0 s

end Sys2Proof.Machine
end

