-- ==== Sys2Proof/Machine/Correlator.lean ====
section
/-!
DEFINITION. The Reply Correlator (46_reply_correlator.md): `NPDU_PARSE`, `APDU_KEY_REQUEST`, `APDU_KEY_REPLY`, `MATCH`,
`CORRELATE`. The octets it inspects are decoded by `decodeNpduControl` and `decodeApdu`; the layouts behind
them are those of 30_encoding.md R130 to R135.
-/

namespace Sys2Proof.Machine

/-- A network address in an NPDU header: network number and address octets (R321). -/
abbrev NetAddress := Half × List Byte

/-- The result of `NPDU_PARSE` (R321). -/
structure Npdu where
  version : Byte
  nlm : Bool
  dst : Option NetAddress
  src : Option NetAddress
  apdu : List Byte
  deriving DecidableEq, Repr

/-- An optional specifier (R130): a network number, most significant octet first, an address length and that
many address octets. The outer option is a header cut short. -/
def takeSpecifier (present : Bool) (p : List Byte) : Option (Option NetAddress × List Byte) :=
  if present then
    match p with
    | hi :: lo :: n :: rest =>
      if n.toNat ≤ rest.length then some (some (joinOctets hi lo, rest.take n.toNat), rest.drop n.toNat)
      else none
    | _ => none
  else some (none, p)

/-- The hop count, present with the destination specifier (R130); not used. -/
def takeHopCount (present : Bool) (p : List Byte) : Option (List Byte) :=
  if present then
    match p with
    | _ :: rest => some rest
    | [] => none
  else some p

/-- `NPDU_PARSE` after the version and control octets, whose bits 7, 5 and 3 are given (R321). -/
def npduBody (version : Byte) (nlm dstPresent srcPresent : Bool) (p : List Byte) : Option Npdu := do
  let (dst, p) ← takeSpecifier dstPresent p
  let (src, p) ← takeSpecifier srcPresent p
  let p ← takeHopCount dstPresent p
  pure { version := version, nlm := nlm, dst := dst, src := src, apdu := p }

/-- The NPDU an NPDU_CONTROL item gives, with the version before it and the octets after it. -/
def npduOf (control : Instr) (version : Byte) (p : List Byte) : Option Npdu :=
  match control with
  | .npduControl nlm _ dstPresent _ srcPresent _ _ => npduBody version nlm dstPresent srcPresent p
  | _ => none

/-- `NPDU_PARSE(p)` (R321). -/
def npduParse : List Byte → Option Npdu
  | version :: control :: rest => npduOf (decodeNpduControl control) version rest
  | _ => none

/-- What a reply's APDU is compared by: the invoke-id, and the service choice where the type carries one
(R323). -/
abbrev ReplyKey := Byte × Option Byte

/-- The key of a confirmed request, from the octets after `a[0]` (R322, 30_encoding.md R133). -/
def confirmedRequestKey (seg : Bool) (a : List Byte) : Option (Byte × Byte) :=
  match seg, a with
  | false, _ :: invoke :: service :: _ => some (invoke, service)
  | true, _ :: invoke :: _ :: _ :: service :: _ => some (invoke, service)
  | _, _ => none

/-- `APDU_KEY_REQUEST(a)` (R322). -/
def apduKeyRequest : List Byte → Option (Byte × Byte)
  | [] => none
  | a0 :: a =>
    match decodeApdu a0 with
    | .apduConfirmedRequest seg _ _ _ => confirmedRequestKey seg a
    | _ => none

/-- The key of a simple-ack, from the octets after `a[0]` (R323, 30_encoding.md R134). -/
def simpleAckKey : List Byte → Option ReplyKey
  | invoke :: service :: _ => some (invoke, some service)
  | _ => none

/-- The key of an error, from the octets after `a[0]` (R323, 30_encoding.md R134). -/
def errorKey : List Byte → Option ReplyKey
  | invoke :: service :: _ => some (invoke, some service)
  | _ => none

/-- The key of a complex-ack, from the octets after `a[0]` (R323, 30_encoding.md R134). -/
def complexAckKey (seg : Bool) (a : List Byte) : Option ReplyKey :=
  match seg, a with
  | false, invoke :: service :: _ => some (invoke, some service)
  | true, invoke :: _ :: _ :: service :: _ => some (invoke, some service)
  | _, _ => none

/-- The key of a segment-ack, a reject or an abort, which carry no service choice (R323, 30_encoding.md
R135). -/
def invokeOnlyKey : List Byte → Option ReplyKey
  | invoke :: _ => some (invoke, none)
  | [] => none

/-- The key of a reply by its APDU row, from the octets after `a[0]` (R323); a type that is no reply has none. -/
def replyKeyOf (i : Instr) (a : List Byte) : Option ReplyKey :=
  match i with
  | .apduSimpleAck _ => simpleAckKey a
  | .apduError _ => errorKey a
  | .apduComplexAck seg _ _ => complexAckKey seg a
  | .apduSegmentAck .. | .apduReject _ | .apduAbort .. => invokeOnlyKey a
  | .apduConfirmedRequest .. | .apduUnconfirmedRequest _ | .apduReserved _ | .npduControl .. => none
  | .token .. | .pfm .. | .rpfm .. | .testRequest .. | .testResponse .. | .der .. | .dner ..
  | .replyPostponed .. | .reserved08 .. | .reserved10 .. | .reserved20 .. | .reserved40 ..
  | .proprietary .. => none

/-- `APDU_KEY_REPLY(a)` (R323). -/
def apduKeyReply : List Byte → Option ReplyKey
  | [] => none
  | a0 :: a => replyKeyOf (decodeApdu a0) a

/-- `ADDR_AGREE(e, nq, nr)` (R324), with the reply frame's source and destination. -/
def addrAgree (e : Entry) (nq nr : Npdu) (src dst : Byte) (s : State) : Bool :=
  e.destination_mac == src && dst == s.this_station && nq.dst == nr.src && nq.src == nr.dst

/-- The keys agree (R325): invoke-id always, service choice where the reply carries one. -/
def keysAgree (request : Byte × Byte) (reply : ReplyKey) : Bool :=
  request.1 == reply.1 && (reply.2 == none || reply.2 == some request.2)

/-- `MATCH(e)` once the request PDU has been read (R325): `nr` and `reply` are the parsed reply header and
its key. -/
def matchPdu (e : Entry) (pdu : List Byte) (nr : Npdu) (reply : ReplyKey) (src dst : Byte) (s : State) :
    Bool :=
  match npduParse pdu with
  | none => false
  | some nq =>
    !nq.nlm && !nr.nlm && nq.version == nr.version && addrAgree e nq nr src dst s &&
      (match apduKeyRequest nq.apdu with
       | none => false
       | some request => keysAgree request reply)

/-- `MATCH(e)` (R325). An entry that expects no reply is not read. -/
def matchEntry (e : Entry) (nr : Npdu) (reply : ReplyKey) (src dst : Byte) (s : State) :
    Except Fault Bool :=
  if e.expects_reply then
    match octetsOf e.payload s.cfg.maxPdu e.length.toNat with
    | .ok pdu => .ok (matchPdu e pdu nr reply src dst s)
    | .error f => .error f
  else .ok false

/-- The scan of `CORRELATE` over the entries from position `k` on, in insertion order (R327). -/
def scan (nr : Npdu) (reply : ReplyKey) (src dst : Byte) (s : State) :
    Nat → List Entry → Except Fault (Option Nat)
  | _, [] => .ok none
  | k, e :: rest =>
    match matchEntry e nr reply src dst s with
    | .ok true => .ok (some k)
    | .ok false => scan nr reply src dst s (k + 1) rest
    | .error f => .error f

/-- `CORRELATE()` for a reply whose header and key are given (R327); without a header or a key nothing
matches (R325). -/
def correlateKey (nr : Option Npdu) (reply : Option ReplyKey) (src dst : Byte) (s : State) :
    Except Fault (Option Nat) :=
  match nr, reply with
  | some nr, some reply => scan nr reply src dst s 0 s.q
  | _, _ => .ok none

/-- The key of a PDU's reply APDU, when its header parses (R325). -/
def pduKeyReply (p : List Byte) : Option ReplyKey := (npduParse p).bind (fun n => apduKeyReply n.apdu)

/-- `CORRELATE()` for the reply PDU `p` of a frame from `src` to `dst` (R320, R327). -/
def correlate (p : List Byte) (src dst : Byte) (s : State) : Except Fault (Option Nat) :=
  correlateKey (npduParse p) (pduKeyReply p) src dst s

end Sys2Proof.Machine
end

