-- ==== Sys2Proof/Machine/Flags.lean ====
section
/-!
DEFINITION. The handoff flags (10_state.md R27): what sets them on the RX side, what clears them on the NODE side.
-/

namespace Sys2Proof.Machine

/-- Some handoff flag is 1. -/
def anyFlag (s : State) : Bool := s.valid_frame || s.valid_frame_not_for_us || s.invalid_frame

/-- `CLASSIFY()` (42 R205): the addressing filter, with `this_station` as it is at this step (20_memory.md R96). -/
def classify (s : State) : State :=
  if forUs s.rx_destination s || bcast s.rx_destination then { s with valid_frame := true }
  else { s with valid_frame_not_for_us := true }

/-- RX completes a frame: `rx_state <- DONE`; `CLASSIFY()` (42 R200, R206). -/
def completeFrame (s : State) : State := classify { s with rx_state := .done }

/-- NODE has finished with a valid frame: `valid_frame <- 0`. -/
def clearValid (s : State) : State := { s with valid_frame := false }

/-- NODE has finished with a frame for another station: `valid_frame_not_for_us <- 0`. -/
def clearNotForUs (s : State) : State := { s with valid_frame_not_for_us := false }

/-- NODE has finished with a discarded frame: `invalid_frame <- 0`. -/
def clearInvalid (s : State) : State := { s with invalid_frame := false }

end Sys2Proof.Machine
end

