-- ==== Sys2Proof/Machine/Interface.lean ====
section
/-!
DEFINITION. The external interfaces (47_external_interfaces.md): the host's operations, the two sub-steps of NODE
that cross the boundary (`ANSWER`, `DELIVER`), the Port Adapter's steps, and `RESET` (70_reset_and_hazards.md R410).
-/

namespace Sys2Proof.Machine

/-! ## Address constructors -/

/-- `fill_broadcast_address()` (R360). -/
def fillBroadcastAddress (c : Config) : BacnetAddress :=
  { mac := macOctets c 0, mac_len := 0, net := Config.broadcastNet, len := 0, adr := macOctets c 0 }

/-- `fill_address(mac)` (R361). -/
def fillAddress (c : Config) (mac : Byte) : BacnetAddress :=
  { mac := macOctets c mac, mac_len := 1, net := 0, len := 0, adr := macOctets c 0 }

/-! ## Send and receive -/

/-- The destination octet of SEND (R351); none for a malformed destination. -/
def sendMac (dest : BacnetAddress) : Option Byte :=
  if dest.mac_len = 0 then some Config.broadcastMac
  else if dest.mac_len = 1 then some dest.mac.first
  else none

/-- `SEND(dest, pdu, expects_reply)` (R351). -/
def send (dest : BacnetAddress) (pdu : List Byte) (expectsReply : Bool) (s : State) : Result :=
  match sendMac dest with
  | none => .next { s with host_result := .bytesAccepted 0 }
  | some m =>
    let (accepted, t) := qEnqueue m pdu (expectsReply && m != Config.broadcastMac) s
    .next { t with host_result := .bytesAccepted (if accepted then pdu.length else 0) }

/-- `RECEIVE()` (R352), on behalf of whatever call of the host: `after` is the wait that remains. -/
def takePacket (after : Option Nat) (s : State) : Result :=
  if s.rp_ready then
    withOctets s.rp_payload s.cfg.maxPdu s.rp_length.toNat fun p =>
      .next { s with rp_ready := false, receive_left := after, host_result := .packet (some (s.rp_address, p)) }
  else .next { s with receive_left := after, host_result := .packet none }

/-- `RECEIVE()` (R352). -/
def receive (s : State) : Result := takePacket s.receive_left s

/-- The host calls receive(timeout_ms) (R353): one RECEIVE at once, then a wait of at most
`min(timeout_ms, RECEIVE_TIMEOUT_MAX)` milliseconds. -/
def receiveCall (timeout : Nat) (s : State) : Result :=
  let t := min timeout Config.receiveTimeoutMax
  if s.rp_ready || t == 0 then takePacket none s
  else .next { s with receive_left := some t, host_result := .waiting }

/-- The waiting host looks again (R353): a packet ends the call, and so does the end of the wait. -/
def receiveRetry (s : State) : Result :=
  match s.receive_left with
  | none => .next s
  | some left => if s.rp_ready || left == 0 then takePacket none s else .next s

/-! ## Configuration accessors -/

/-- `set_mac_address(a)` accepts (R354). -/
def acceptsMacAddress (a : Byte) (s : State) : Bool :=
  decide (a.toNat ≤ 254) && (decide (127 < a.toNat) || decide (a.toNat ≤ s.max_master.toNat))

/-- `set_mac_address(a)` (R354). -/
def setMacAddress (a : Byte) (s : State) : State :=
  if acceptsMacAddress a s && a != s.this_station then
    { s with this_station := a, master_state := .idle, host_result := .nothing }
  else { s with host_result := .nothing }

/-- `set_max_master(m)` accepts (R356). -/
def acceptsMaxMaster (m : Byte) (s : State) : Bool :=
  decide (m.toNat ≤ 127) && (decide (127 < s.this_station.toNat) || decide (s.this_station.toNat ≤ m.toNat))

/-- `set_max_master(m)` (R356). -/
def setMaxMaster (m : Byte) (s : State) : State :=
  if acceptsMaxMaster m s then { s with max_master := m, host_result := .nothing }
  else { s with host_result := .nothing }

/-- `set_max_info_frames(n)` (R358). -/
def setMaxInfoFrames (n : Byte) (s : State) : State :=
  if 1 ≤ n.toNat then { s with max_info_frames := n, host_result := .nothing }
  else { s with host_result := .nothing }

/-- A configuration accessor's read (R355, R357, R359), or an address constructor (R360, R361). -/
def hostReads (r : HostResult) (s : State) : State := { s with host_result := r }

/-! ## Reply construction and delivery -/

/-- A reply `BUILD_REPLY` may give (R362): 1 to `MAX_PDU` octets. -/
def replyInContract (c : Config) (r : List Byte) : Bool := r.length != 0 && decide (r.length ≤ c.maxPdu)

/-- The free answer of the upper layer, kept within R362's contract: an answer outside it stands for none. -/
def freeReply (c : Config) (n : Nat) (src : Byte) (data : List Byte) : Option (List Byte) :=
  (Config.freeReply n src data).filter (replyInContract c)

/-- `BUILD_REPLY(src, data)` (R362): the upper layer's answer, `reply_port` first, then the free value (entry 7);
the question is shown on the request port (R369). -/
def buildReply (src : Byte) (data : List Byte) (s : State) : Option (List Byte) × State :=
  match s.reply_port with
  | r :: rest => (r, { s with reply_port := rest, reply_request := some (src, data) })
  | [] =>
    (freeReply s.cfg s.asked src data, { s with asked := s.asked + 1, reply_request := some (src, data) })

/-- `ANSWER()` (R363) to the request `input_buffer[0..len)` from `src`. -/
def answer (src : Byte) (len : Half) (s : State) : Result :=
  withInput len s fun data =>
    match buildReply src data s with
    | (none, t) => .next t
    | (some r, t) =>
      if replyInContract t.cfg r then .next (transmit ftDner src t.this_station r t)
      else .refused .replyOutsideContract

/-- `DELIVER()` takes the frame (R364): the slot is empty and the frame has data. -/
def deliverAccepts (len : Half) (s : State) : Bool := !s.rp_ready && decide (1 ≤ len.toNat)

/-- `DELIVER()` (R364) of the frame `input_buffer[0..len)` from `src`. -/
def deliver (src : Byte) (len : Half) (s : State) : Result :=
  if deliverAccepts len s then
    withInput len s fun data =>
      .next { s with
        rp_address := fillAddress s.cfg src
        rp_payload := s.rp_payload.writeSeq 0 data
        rp_length := len
        rp_ready := true }
  else .next s

/-! ## Port Adapter -/

/-- `PORT_RX(b)` (R365). -/
def portRx (b : Byte) (s : State) : State := { s with rx_stream := s.rx_stream ++ [b] }

/-- `PORT_TX` (R366); with `tx_stream` empty there is no such step. -/
def portTx (s : State) : State := { s with tx_stream := s.tx_stream.tail }

/-! ## Reset -/

/-- `RESET` (70 R410): every element of the block takes its reset value; the parameters and what stands outside
the block (the coming steps and replies, the host's waiting call) stay (entry 22). -/
def doReset (s : State) : State :=
  { resetWith s.cfg with
    agenda := s.agenda
    turn := s.turn
    rx_wait := s.rx_wait
    node_wait := s.node_wait
    reply_port := s.reply_port
    asked := s.asked
    receive_left := s.receive_left }

end Sys2Proof.Machine
end

