-- ==== Sys2Proof/Machine/Node.lean ====
section
/-!
DEFINITION. NODE_STEP (43_master_fsm.md, 44_slave_fsm.md): everything in it that does not depend on the type of the
frame handed over, and the choice of the rule by role, `master_state` and handoff flag (43 R230, R232, 44 R290).
What a frame type adds is a `FrameReaction`; Machine/FrameTypes.lean gives one per type.
-/

namespace Sys2Proof.Machine

/-- The end of a NODE step with its `more_work` (43 R233). -/
def nodeDone (more : Bool) (s : State) : Result := .next { s with more_work := more }

/-- A master takes the token or keeps it: `frame_count <- 0`; `USE_TOKEN` (43 R237, R246, R267, R276). -/
def takeToken (s : State) : Result :=
  nodeDone true { s with frame_count := 0, master_state := .useToken }

/-- Sends a PFM to `p` and waits for the answer (43 R246, R267, R276). -/
def pollStation (p : Byte) (s : State) : Result :=
  nodeDone false { transmit ftPfm p s.this_station [] s with master_state := .pollForMaster }

/-! ## Steps without a frame -/

/-- `IDLE` with all flags 0 (43 R244 to R246). -/
def idleQuiet (s : State) : Result :=
  if silenceRead s < claimThreshold s then nodeDone false s
  else
    let p := nextAddr s s.this_station
    let s := { s with poll_station := p }
    if p = s.this_station then takeToken s else pollStation p s

/-- `USE_TOKEN` (43 R250 to R252): one entry is sent per step. -/
def useToken (s : State) : Result :=
  match qPeek s with
  | none => nodeDone true { s with master_state := .doneWithToken }
  | some e =>
    if s.max_info_frames.toNat ≤ s.frame_count.toNat then
      nodeDone true { s with master_state := .doneWithToken }
    else
      withPayload e s fun d =>
        if e.expects_reply then
          let t := transmit ftDer e.destination_mac s.this_station d s
          nodeDone false { t with frame_count := t.frame_count + 1, master_state := .waitForReply }
        else
          let t := transmit ftDner e.destination_mac s.this_station d s
          nodeDone true (qPop { t with frame_count := t.frame_count + 1 })

/-- `WAIT_FOR_REPLY` with all flags 0 (43 R259, R260). -/
def waitQuiet (s : State) : Result :=
  if silenceRead s < s.cfg.tReplyTimeout then nodeDone false s
  else
    let t := if s.cfg.derTimeoutRetain then s else qPop s
    nodeDone true { t with master_state := .doneWithToken }

/-- `DONE_WITH_TOKEN` (43 R262). -/
def doneWithToken (s : State) : Result :=
  nodeDone true { s with next_station := nextAddr s s.this_station, master_state := .passToken }

/-- `PASS_TOKEN` (43 R264, R265). -/
def passToken (s : State) : Result :=
  if s.next_station = s.this_station then
    nodeDone false { silenceReset s with master_state := .noToken }
  else
    nodeDone false { transmit ftToken s.next_station s.this_station [] s with master_state := .noToken }

/-- `NO_TOKEN` with all flags 0 (43 R267 to R269). -/
def noTokenQuiet (s : State) : Result :=
  if s.cfg.ringExpand && decide (s.cfg.tUsageTimeout ≤ silenceRead s) then
    let p := nextAddr s s.next_station
    let s := { s with poll_station := p }
    if p = s.this_station then takeToken s else pollStation p s
  else if s.cfg.tNoToken ≤ silenceRead s then nodeDone true { s with master_state := .idle }
  else nodeDone false s

/-- The poll window closes: the next address is polled, or the sweep is over (43 R276). -/
def pollNext (s : State) : Result :=
  let p := nextAddr s s.poll_station
  if p = s.this_station then takeToken s else pollStation p { s with poll_station := p }

/-- `POLL_FOR_MASTER` with all flags 0 (43 R276, R277). -/
def pollQuiet (s : State) : Result :=
  if silenceRead s < s.cfg.tUsageTimeout then nodeDone false s else pollNext s

/-- `ANSWER_DATA_REQUEST` (43 R280). -/
def answerDataRequest (s : State) : Result :=
  andThen (if s.valid_frame then answer s.rx_source s.rx_data_length s else .next s) fun t =>
    nodeDone false { clearValid t with master_state := .idle }

/-! ## Steps on a frame whose type is not examined, or does not matter -/

/-- A valid frame is dropped: `valid_frame <- 0` and nothing else (43 R242, R258, 44 R296). -/
def dropFrame (s : State) : Result := nodeDone false (clearValid s)

/-- A frame for another station is dropped (43 R236, R256, 44 R292). -/
def dropNotForUs (s : State) : Result := nodeDone false (clearNotForUs s)

/-- A discarded frame is taken note of (43 R235, R255, 44 R291). -/
def dropInvalid (s : State) : Result := nodeDone false (clearInvalid s)

/-- The frame is left, its flag raised, for `IDLE` (43 R266, R274). -/
def leaveToIdle (s : State) : Result := nodeDone true { s with master_state := .idle }

/-- A valid frame is handed to the upper layer (43 R239, R241, 44 R294, R295). -/
def deliverFrame (src : Byte) (len : Half) (s : State) : Result :=
  andThen (deliver src len s) dropFrame

/-! ## The choice of the rule -/

/-- What NODE does with a valid frame of one type, where the type matters: as a slave, and as a master in
`IDLE`, `WAIT_FOR_REPLY` and `POLL_FOR_MASTER` (43 R232, 44 R290). -/
structure FrameReaction where
  slave : State → Result
  idle : State → Result
  waitForReply : State → Result
  pollForMaster : State → Result

/-- The rule for the flag that is 1 (43 R232); at most one is (10_state.md R45 item 1). With no flag, the rule
for silence. -/
def byFlag (valid notForUs invalid quiet : State → Result) (s : State) : Result :=
  if s.valid_frame then valid s
  else if s.valid_frame_not_for_us then notForUs s
  else if s.invalid_frame then invalid s
  else quiet s

/-- NODE_STEP in role SLAVE (44 R290 to R297). -/
def slaveStep (r : FrameReaction) (s : State) : Result :=
  byFlag r.slave dropNotForUs dropInvalid (nodeDone false) s

/-- NODE_STEP in role MASTER (43 R232 to R280): the transient states look at no flag. -/
def masterStep (r : FrameReaction) (s : State) : Result :=
  match s.master_state with
  | .idle => byFlag r.idle dropNotForUs dropInvalid idleQuiet s
  | .useToken => useToken s
  | .waitForReply => byFlag r.waitForReply dropNotForUs dropInvalid waitQuiet s
  | .doneWithToken => doneWithToken s
  | .passToken => passToken s
  | .noToken => byFlag leaveToIdle leaveToIdle leaveToIdle noTokenQuiet s
  | .pollForMaster =>
    byFlag r.pollForMaster leaveToIdle (fun s => pollNext (clearInvalid s)) pollQuiet s
  | .answerDataRequest => answerDataRequest s

/-- NODE_STEP with a frame of the type that reacts as `r` in the RX registers (43 R230). -/
def nodeReact (r : FrameReaction) (s : State) : Result :=
  if isMaster s then masterStep r s else slaveStep r s

/-! ## A candidate reply -/

/-- The end of the correlation (43 R257, R258): the matched entry is removed and the reply delivered, or the
frame is dropped and the wait goes on. -/
def finishCorrelation (src : Byte) (len : Half) (found : Except Fault (Option Nat)) (s : State) : Result :=
  match found with
  | .ok (some k) =>
    andThen (deliver src len (qPopElement k s)) fun t =>
      nodeDone true { clearValid t with master_state := .useToken }
  | .ok none => dropFrame s
  | .error f => .fault f

/-- A DNER for this station in `WAIT_FOR_REPLY` (43 R257, R258). -/
def correlateFrame (dst src : Byte) (len : Half) (s : State) : Result :=
  withInput len s fun p => finishCorrelation src len (correlate p src dst s) s

/-- The Reply Correlator has a candidate reply before it (46 R320): NODE is in `WAIT_FOR_REPLY` as a master, and a
valid DNER for this station is in the RX registers. -/
def correlating (s : State) : Bool :=
  isMaster s && s.master_state == .waitForReply && s.valid_frame && s.rx_frame_type == ftDner
    && forUs s.rx_destination s

end Sys2Proof.Machine
end

