-- ==== Sys2Proof/Machine/FrameTypes.lean ====
section
/-!
DEFINITION. The meanings of the frame rows (30_encoding.md R118 to R127): NODE_STEP with a frame of that type in the
RX registers. The operands are the header's fields; the data is the memory operand `input_buffer[0..len)`.
The header CRC octet is no operand of NODE: RX has judged it before a flag is raised (42 R200, R201).
-/

namespace Sys2Proof.Machine

/-- `TOKEN` (R118): a master in `IDLE` takes the token addressed to it (43 R237); a broadcast token, and a token
at a slave, is dropped (43 R242, R258, 44 R296); a polling master gives way (43 R274). -/
def execToken (dst _src : Byte) (_len : Half) (_hcrc : Byte) (s : State) : Result :=
  nodeReact
    { slave := dropFrame
      idle := fun s => if forUs dst s then takeToken (clearValid s) else dropFrame s
      waitForReply := dropFrame
      pollForMaster := leaveToIdle } s

/-- `PFM` (R119): a master in `IDLE` answers a poll addressed to it with an RPFM (43 R238). -/
def execPfm (dst src : Byte) (_len : Half) (_hcrc : Byte) (s : State) : Result :=
  nodeReact
    { slave := dropFrame
      idle := fun s =>
        if forUs dst s then dropFrame (transmit ftRpfm src s.this_station [] s) else dropFrame s
      waitForReply := dropFrame
      pollForMaster := leaveToIdle } s

/-- `RPFM` (R120): a polling master takes the sender as its successor (43 R273); elsewhere it is ignored. -/
def execRpfm (dst src : Byte) (_len : Half) (_hcrc : Byte) (s : State) : Result :=
  nodeReact
    { slave := dropFrame
      idle := dropFrame
      waitForReply := dropFrame
      pollForMaster := fun s =>
        if forUs dst s then
          nodeDone true (clearValid { s with next_station := src, master_state := .passToken })
        else leaveToIdle s } s

/-- `DER` (R121): addressed to this station it is answered, by a slave in this step (44 R293), by a master in
`ANSWER_DATA_REQUEST` (43 R240, R280); broadcast it is delivered and not answered (43 R241, 44 R295). -/
def execDer (dst src : Byte) (len : Half) (_hcrc : Byte) (s : State) : Result :=
  nodeReact
    { slave := fun s =>
        if forUs dst s && !bcast dst then andThen (answer src len s) dropFrame
        else if bcast dst then deliverFrame src len s
        else dropFrame s
      idle := fun s =>
        if forUs dst s then nodeDone true { s with master_state := .answerDataRequest }
        else if bcast dst then deliverFrame src len s
        else dropFrame s
      waitForReply := dropFrame
      pollForMaster := leaveToIdle } s

/-- `DNER` (R122): addressed to this station or broadcast it is delivered (43 R239, 44 R294), except in
`WAIT_FOR_REPLY`, where one for this station is offered to the Reply Correlator (43 R257, R258). -/
def execDner (dst src : Byte) (len : Half) (_hcrc : Byte) (s : State) : Result :=
  nodeReact
    { slave := fun s => if forUs dst s || bcast dst then deliverFrame src len s else dropFrame s
      idle := fun s => if forUs dst s || bcast dst then deliverFrame src len s else dropFrame s
      waitForReply := fun s => if forUs dst s then correlateFrame dst src len s else dropFrame s
      pollForMaster := leaveToIdle } s

/-- A frame type with no function (R123 to R127): ignored in every state and role (43 R242, R258, 44 R296), except
that a polling master gives way to it as to any other valid frame (43 R274). -/
def ignoredType : FrameReaction where
  slave := dropFrame
  idle := dropFrame
  waitForReply := dropFrame
  pollForMaster := leaveToIdle

/-- `TEST_REQUEST` (R123): received and ignored. -/
def execTestRequest (_dst _src : Byte) (_len : Half) (_hcrc : Byte) (s : State) : Result :=
  nodeReact ignoredType s

/-- `TEST_RESPONSE` (R124): received and ignored. -/
def execTestResponse (_dst _src : Byte) (_len : Half) (_hcrc : Byte) (s : State) : Result :=
  nodeReact ignoredType s

/-- `REPLY_POSTPONED` (R125): received and ignored. -/
def execReplyPostponed (_dst _src : Byte) (_len : Half) (_hcrc : Byte) (s : State) : Result :=
  nodeReact ignoredType s

/-- `RESERVED_08_0F` (R126): received and ignored. -/
def execReserved08 (_t : BitVec 3) (_dst _src : Byte) (_len : Half) (_hcrc : Byte) (s : State) : Result :=
  nodeReact ignoredType s

/-- `RESERVED_10_1F` (R126): received and ignored. -/
def execReserved10 (_t : BitVec 4) (_dst _src : Byte) (_len : Half) (_hcrc : Byte) (s : State) : Result :=
  nodeReact ignoredType s

/-- `RESERVED_20_3F` (R126): received and ignored. -/
def execReserved20 (_t : BitVec 5) (_dst _src : Byte) (_len : Half) (_hcrc : Byte) (s : State) : Result :=
  nodeReact ignoredType s

/-- `RESERVED_40_7F` (R126): received and ignored. -/
def execReserved40 (_t : BitVec 6) (_dst _src : Byte) (_len : Half) (_hcrc : Byte) (s : State) : Result :=
  nodeReact ignoredType s

/-- `PROPRIETARY_80_FF` (R127): received and ignored. -/
def execProprietary (_t : BitVec 7) (_dst _src : Byte) (_len : Half) (_hcrc : Byte) (s : State) : Result :=
  nodeReact ignoredType s

end Sys2Proof.Machine
end

