-- ==== Sys2Proof/Machine/PduTypes.lean ====
section
/-!
DEFINITION. The meanings of the PDU rows: what NODE_STEP does when the Reply Correlator, with a candidate reply before
it (46 R320), meets that octet: the NPDU control octet `p[1]` (30_encoding.md R131, 46 R321), or octet `a[0]` of the
APDU (30_encoding.md R132, 46 R323). With no candidate reply before it the correlator is not invoked (46 R320) and
the octet, which belongs to the application layer (00 R5), has no effect (entry 12).
-/

namespace Sys2Proof.Machine

/-- The correlation of the candidate reply, given its parsed header and its key (43 R257, R258). -/
def correlateWith (nr : Option Npdu) (reply : Option ReplyKey) (s : State) : Result :=
  finishCorrelation s.rx_source s.rx_data_length
    (correlateKey nr reply s.rx_source s.rx_destination s) s

/-- The candidate reply's APDU starts with an octet of the type whose key is `keyOf` (46 R323). -/
def apduStep (keyOf : List Byte → Option ReplyKey) (s : State) : Result :=
  if correlating s then
    withInput s.rx_data_length s fun p =>
      let nr := npduParse p
      correlateWith nr (nr.bind fun n => keyOf n.apdu.tail) s
  else .next s

/-- `APDU_CONFIRMED_REQUEST` (R133): no reply, so it never matches. -/
def execApduConfirmedRequest (_seg _mor _sa _x : Bool) (s : State) : Result :=
  apduStep (fun _ => none) s

/-- `APDU_UNCONFIRMED_REQUEST` (R132): never matches. -/
def execApduUnconfirmedRequest (_x : BitVec 4) (s : State) : Result := apduStep (fun _ => none) s

/-- `APDU_SIMPLE_ACK` (R134): invoke-id `a[1]`, service choice `a[2]`. -/
def execApduSimpleAck (_x : BitVec 4) (s : State) : Result := apduStep simpleAckKey s

/-- `APDU_COMPLEX_ACK` (R134): invoke-id `a[1]`, service choice `a[2]`, or `a[4]` when segmented. -/
def execApduComplexAck (seg _mor : Bool) (_x : BitVec 2) (s : State) : Result :=
  apduStep (complexAckKey seg) s

/-- `APDU_SEGMENT_ACK` (R135): invoke-id `a[1]` only. -/
def execApduSegmentAck (_x : BitVec 2) (_nak _srv : Bool) (s : State) : Result := apduStep invokeOnlyKey s

/-- `APDU_ERROR` (R134): invoke-id `a[1]`, service choice `a[2]`. -/
def execApduError (_x : BitVec 4) (s : State) : Result := apduStep errorKey s

/-- `APDU_REJECT` (R135): invoke-id `a[1]` only. -/
def execApduReject (_x : BitVec 4) (s : State) : Result := apduStep invokeOnlyKey s

/-- `APDU_ABORT` (R135): invoke-id `a[1]` only. -/
def execApduAbort (_x : BitVec 3) (_srv : Bool) (s : State) : Result := apduStep invokeOnlyKey s

/-- `APDU_RESERVED_80_FF` (R132): never matches. -/
def execApduReserved (_x : BitVec 7) (s : State) : Result := apduStep (fun _ => none) s

/-- `NPDU_CONTROL` (R131): bits 7, 5 and 3 steer `NPDU_PARSE`; the other bits are not read (46 R326). -/
def execNpduControl (nlm reserved6 dstPresent reserved4 srcPresent expectingReply : Bool)
    (priority : BitVec 2) (s : State) : Result :=
  if correlating s then
    withInput s.rx_data_length s fun p =>
      let nr :=
        match p with
        | version :: _ :: rest =>
          npduOf (.npduControl nlm reserved6 dstPresent reserved4 srcPresent expectingReply priority)
            version rest
        | _ => none
      correlateWith nr (nr.bind fun n => apduKeyReply n.apdu) s
  else .next s

end Sys2Proof.Machine
end

