-- ==== Sys2Proof/Machine/Dispatch.lean ====
section
/-!
DEFINITION. `exec`: one arm per constructor of `Instr`, each one direct call of its meaning.
-/

namespace Sys2Proof.Machine

def exec (i : Instr) (s : State) : Host.Outcome State Fault Refusal :=
  match i with
  | .token dst src len hcrc => Sys2Proof.Machine.execToken dst src len hcrc s
  | .pfm dst src len hcrc => Sys2Proof.Machine.execPfm dst src len hcrc s
  | .rpfm dst src len hcrc => Sys2Proof.Machine.execRpfm dst src len hcrc s
  | .testRequest dst src len hcrc => Sys2Proof.Machine.execTestRequest dst src len hcrc s
  | .testResponse dst src len hcrc => Sys2Proof.Machine.execTestResponse dst src len hcrc s
  | .der dst src len hcrc => Sys2Proof.Machine.execDer dst src len hcrc s
  | .dner dst src len hcrc => Sys2Proof.Machine.execDner dst src len hcrc s
  | .replyPostponed dst src len hcrc => Sys2Proof.Machine.execReplyPostponed dst src len hcrc s
  | .reserved08 t dst src len hcrc => Sys2Proof.Machine.execReserved08 t dst src len hcrc s
  | .reserved10 t dst src len hcrc => Sys2Proof.Machine.execReserved10 t dst src len hcrc s
  | .reserved20 t dst src len hcrc => Sys2Proof.Machine.execReserved20 t dst src len hcrc s
  | .reserved40 t dst src len hcrc => Sys2Proof.Machine.execReserved40 t dst src len hcrc s
  | .proprietary t dst src len hcrc => Sys2Proof.Machine.execProprietary t dst src len hcrc s
  | .apduConfirmedRequest seg mor sa x => Sys2Proof.Machine.execApduConfirmedRequest seg mor sa x s
  | .apduUnconfirmedRequest x => Sys2Proof.Machine.execApduUnconfirmedRequest x s
  | .apduSimpleAck x => Sys2Proof.Machine.execApduSimpleAck x s
  | .apduComplexAck seg mor x => Sys2Proof.Machine.execApduComplexAck seg mor x s
  | .apduSegmentAck x nak srv => Sys2Proof.Machine.execApduSegmentAck x nak srv s
  | .apduError x => Sys2Proof.Machine.execApduError x s
  | .apduReject x => Sys2Proof.Machine.execApduReject x s
  | .apduAbort x srv => Sys2Proof.Machine.execApduAbort x srv s
  | .apduReserved x => Sys2Proof.Machine.execApduReserved x s
  | .npduControl n r6 d r4 c e p => Sys2Proof.Machine.execNpduControl n r6 d r4 c e p s

end Sys2Proof.Machine
end

