-- ==== Sys2Proof/Machine/Receive.lean ====
section
/-!
DEFINITION. The Receive Frame State Machine (42_receive_fsm.md): `RX_REARM`, `RX_BYTE`, `RX_ABORT`.
-/

namespace Sys2Proof.Machine

/-- `rx_ready` (42 R190): RX is in a state that consumes octets. -/
def rxReady (s : State) : Bool := s.rx_state != .idle && s.rx_state != .done

/-- The precondition of `RX_REARM` (R191). -/
def rearmEnabled (s : State) : Bool := !rxReady s && !anyFlag s

/-- `RX_REARM` (R191). -/
def rxRearm (s : State) : State := { s with rx_state := .preamble1 }

/-- The precondition of `RX_ABORT` (R207): a frame has been started and the bus has been silent too long. -/
def abortEnabled (s : State) : Bool :=
  rxReady s && s.rx_state != .preamble1 && decide (s.cfg.tFrameAbort ≤ silenceRead s)

/-- `RX_ABORT` (R207). -/
def rxAbort (s : State) : State := silenceReset (discardFrame s)

/-- `PREAMBLE_1` (R193, R194). -/
def rxPreamble1 (b : Byte) (s : State) : State :=
  if b = preamble1 then { s with rx_state := .preamble2 } else s

/-- `PREAMBLE_2` (R195 to R197). -/
def rxPreamble2 (b : Byte) (s : State) : State :=
  if b = preamble2 then { s with rx_index := 0, rx_header_crc := crc8Init, rx_state := .header }
  else if b = preamble1 then s
  else discardFrame s

/-- The field a covered header octet is stored in (R198, R199). -/
def storeHeaderOctet (b : Byte) (s : State) : State :=
  match s.rx_index.toNat with
  | 0 => { s with rx_frame_type := b }
  | 1 => { s with rx_destination := b }
  | 2 => { s with rx_source := b }
  | 3 => { s with rx_data_length := joinOctets b 0 }
  | 4 => { s with rx_data_length := joinOctets (hiOctet s.rx_data_length) b }
  | _ => s

/-- `HEADER` (R199). -/
def rxHeader (b : Byte) (s : State) : State :=
  let s := { storeHeaderOctet b s with rx_header_crc := crc8Update b s.rx_header_crc }
  let s := { s with rx_index := s.rx_index + 1 }
  if s.rx_index = 5 then { s with rx_state := .headerCrcCheck } else s

/-- `HEADER_CRC_CHECK` (R200 to R202). -/
def rxHeaderCrcCheck (b : Byte) (s : State) : State :=
  let c := crc8Update b s.rx_header_crc
  let s := { s with rx_header_crc := c }
  if c ≠ crc8Residue then discardFrame s
  else if s.rx_data_length = 0 then completeFrame s
  else { s with rx_index := 0, rx_data_crc := crc16Init, rx_state := .data }

/-- `DATA` (R203): an octet beyond the buffer is counted and checked but not stored. -/
def rxData (b : Byte) (s : State) : State :=
  let s := { s with rx_data_crc := crc16Update b s.rx_data_crc }
  let s :=
    if s.rx_index.toNat < s.cfg.maxPdu then
      { s with input_buffer := s.input_buffer.write s.rx_index.toNat b }
    else s
  let s := { s with rx_index := s.rx_index + 1 }
  if s.rx_index = s.rx_data_length then { s with rx_index := 0, rx_state := .dataCrcCheck } else s

/-- `DATA_CRC_CHECK` (R204, R206). -/
def rxDataCrcCheck (b : Byte) (s : State) : State :=
  let c := crc16Update b s.rx_data_crc
  let s := { s with rx_data_crc := c }
  if s.rx_index = 0 then { s with rx_index := 1 }
  else
    let s := { s with rx_index := 2 }
    if c = crc16Residue ∧ s.rx_data_length.toNat ≤ s.cfg.maxPdu then completeFrame s
    else discardFrame s

/-- Effect (3) of `RX_BYTE` (R192): the one rule among R193 to R206 that `rx_state` and `b` select. -/
def rxOctet (b : Byte) (s : State) : State :=
  match s.rx_state with
  | .idle => s
  | .preamble1 => rxPreamble1 b s
  | .preamble2 => rxPreamble2 b s
  | .header => rxHeader b s
  | .headerCrcCheck => rxHeaderCrcCheck b s
  | .data => rxData b s
  | .dataCrcCheck => rxDataCrcCheck b s
  | .done => s

/-- `RX_BYTE` on the octet at the head of `rx_stream` (R192): the octet is removed, the silence counter reset,
then the state-specific effect. -/
def rxByte (b : Byte) (rest : List Byte) (s : State) : State :=
  rxOctet b (silenceReset { s with rx_stream := rest })

/-- The enabled step of RX (R190). At most one of the three is enabled; the abort is taken before an octet
(R192). With none enabled there is no step of RX and the block stays as it is (entry 10). -/
def rxStep (s : State) : State :=
  if rearmEnabled s then rxRearm s
  else if abortEnabled s then rxAbort s
  else if rxReady s then
    match s.rx_stream with
    | b :: rest => rxByte b rest s
    | [] => s
  else s

/-- RX has a step: the precondition of `RX_REARM` (R191), `RX_ABORT` (R207) or `RX_BYTE` (R192) holds. -/
def rxEnabled (s : State) : Bool :=
  rearmEnabled s || abortEnabled s || (rxReady s && !s.rx_stream.isEmpty)

end Sys2Proof.Machine
end

