-- ==== Sys2Proof/Machine/Silence.lean ====
section
/-!
DEFINITION. The Silence Tracker's own step, `TICK` (41_silence_tracker.md R183, R185).
-/

namespace Sys2Proof.Machine

/-- The counter after one more millisecond: it saturates (41 R183, R185). -/
def silenceNext (s : State) : Nat := min (s.silence_ms + 1) s.cfg.silenceMax

/-- `TICK` (41 R183). The block's only write is `silence_ms`; the host's own wait (47 R353) counts the same
millisecond (entry 15). -/
def tick (s : State) : State :=
  { s with silence_ms := silenceNext s, receive_left := s.receive_left.map (· - 1) }

end Sys2Proof.Machine
end

