-- ==== Sys2Proof/Machine/Agents.lean ====
section
/-!
DEFINITION. One atomic step of each agent (00_scope.md R3, 20_memory.md R90), and where `withFetchWord` places an
encoded word so that the next NODE_STEP runs it.
-/

namespace Sys2Proof.Machine

/-- NODE_STEP (43 R230): the frame row of the RX header registers is fetched, decoded and run. Its meaning looks
at the registers' content only under a handoff flag. -/
def nodeStep (s : State) : Result := exec (fetch s) s

/-- The atomic step an event asks for. -/
def runEvent (e : Event) (s : State) : Result :=
  match e with
  | .tick => .next (tick s)
  | .rx => .next (rxStep s)
  | .node => nodeStep s
  | .portRx b => .next (portRx b s)
  | .portTx => .next (portTx s)
  | .send dest pdu expectsReply => send dest pdu expectsReply s
  | .receive => receive s
  | .receiveCall timeout => receiveCall timeout s
  | .receiveRetry => receiveRetry s
  | .setMacAddress a => .next (setMacAddress a s)
  | .macAddress => .next (hostReads (.octet s.this_station) s)
  | .setMaxMaster m => .next (setMaxMaster m s)
  | .maxMaster => .next (hostReads (.octet s.max_master) s)
  | .setMaxInfoFrames n => .next (setMaxInfoFrames n s)
  | .maxInfoFrames => .next (hostReads (.octet s.max_info_frames) s)
  | .fillBroadcastAddress => .next (hostReads (.address (fillBroadcastAddress s.cfg)) s)
  | .fillAddress mac => .next (hostReads (.address (fillAddress s.cfg mac)) s)
  | .reset => .next (doReset s)

/-! ## The order of steps: any, but weakly fair to RX and NODE (20_memory.md R91, 47 R368, 93 I13; entry 2) -/

/-- The step of a run whose agenda is empty: RX or NODE when it has been passed over as often as it may be, and any
step otherwise. -/
def freeEvent (s : State) : Event :=
  if rxEnabled s && s.rx_wait == some 0 then .rx
  else if s.node_wait == some 0 then .node
  else Config.schedule s.turn

/-- How often an agent may still be passed over, after a free step that passed it over (`passed`: it had a step and
did not take it) or did not; `patience` is the allowance when the wait begins. -/
def waitNext (passed : Bool) (patience : Nat) (wait : Option Nat) : Option Nat :=
  if passed then some (match wait with | some k => k - 1 | none => patience) else none

/-- Takes the next event: the head of the agenda, or, with an empty agenda, the free one. -/
def takeEvent (s : State) : Event × State :=
  match s.agenda with
  | e :: rest => (e, { s with agenda := rest })
  | [] =>
    let e := freeEvent s
    (e, { s with
      turn := s.turn + 1
      rx_wait := waitNext (rxEnabled s && e != .rx) (Config.rxPatience s.turn) s.rx_wait
      node_wait := waitNext (e != .node) (Config.nodePatience s.turn) s.node_wait })

/-! ## Placing a word (entry 3) -/

/-- RX has consumed the octets `bs` and NODE steps next: the frame stands in the RX registers as RX leaves it, with
the flag RX raises. A master in a state that looks at no flag, or answers an earlier request, is put in
`IDLE`, where it fetches the frame. -/
def placeFrame (bs : List Byte) (s : State) : State :=
  let transient :=
    match s.master_state with
    | .useToken | .doneWithToken | .passToken | .answerDataRequest => true
    | .idle | .waitForReply | .noToken | .pollForMaster => false
  bs.foldl (fun s b => rxOctet b s)
    { s with
      rx_state := .preamble1
      silence_ms := 0
      valid_frame := false
      valid_frame_not_for_us := false
      invalid_frame := false
      master_state := if isMaster s && transient then .idle else s.master_state
      agenda := .node :: s.agenda }

/-- The candidate reply whose APDU starts with the octet `a`: an NPDU header of version 1 with no specifier, then
`a` and octets of zeros, as many as fit (the longest key ends at `a[4]`). -/
def placedReply (a : Byte) (c : Config) : List Byte := ([0x01, 0x00, a, 0, 0, 0, 0] : List Byte).take c.maxPdu

/-- A master in `WAIT_FOR_REPLY` with that candidate reply before it, and NODE steps next. A slave is made the
master of address 0. -/
def placeApdu (a : Byte) (s : State) : State :=
  let s := if isMaster s then s else { s with this_station := 0 }
  let s := { s with master_state := .waitForReply }
  placeFrame (constructFrame ftDner s.this_station 0 (placedReply a s.cfg) s.cfg.outCap) s

/-- Places a word of opcode_table.json (R142) where the next step fetches it. -/
def placeWord (nbits w : Nat) (s : State) : State :=
  if nbits = 64 then placeFrame (wordFrameOctets w) s
  else placeApdu (BitVec.ofNat 8 w) s

end Sys2Proof.Machine
end

