-- ==== Sys2Proof/Machine/Step.lean ====
section
/-!
DEFINITION. The step of the machine and the placing of a word in front of it; both only call Machine/Agents.lean.
-/

namespace Sys2Proof.Machine

/-- One atomic step of one agent (20_memory.md R90, R91): the next event is taken and run. -/
def step (s : State) : Host.Outcome State Fault Refusal :=
  runEvent (takeEvent s).1 (takeEvent s).2

/-- `s` with the instruction of a table word placed so that the very next step runs it (entry 3). -/
def State.withFetchWord (s : State) (nbits w : Nat) : State := placeWord nbits w s

end Sys2Proof.Machine
end

