-- ==== Sys2Proof/Machine/Ring.lean ====
section
/-!
DEFINITION. The ring that realises the Outgoing PDU Queue in hardware (45_pdu_queue.md R308): storage
`q_store[0..QUEUE_CAP)`, head index and count. The machine's state holds the sequence `q` and the head index
(10_state.md R38 allows it; entry 20); this file is the storage behind them, and the obligations say that
it realises them.
-/

namespace Sys2Proof.Machine

/-- `q_store`, `q_head` and `q_count` (R308). -/
structure Ring where
  store : List Entry
  head : Nat
  count : Nat
  deriving DecidableEq, Repr

/-- `QUEUE_CAP`, the size of the storage. -/
def Ring.cap (r : Ring) : Nat := r.store.length

/-- The entry of an unwritten slot; the spec leaves it unspecified and no rule reads it (93 I10). -/
def blankEntry : Entry := { payload := [], length := 0, destination_mac := 0, expects_reply := false }

/-- `q[k] = q_store[(q_head + k) mod QUEUE_CAP]` (R308). -/
def Ring.get (r : Ring) (k : Nat) : Entry := r.store.getD ((r.head + k) % r.cap) blankEntry

/-- The sequence the ring stands for: `q[0], ..., q[q_count-1]` (10_state.md R38). -/
def Ring.view (r : Ring) : List Entry := (List.range r.count).map r.get

/-- `q_head` in `0..QUEUE_CAP-1` and `0 <= q_count <= QUEUE_CAP` (10_state.md R38). -/
def Ring.wf (r : Ring) : Prop := r.head < r.cap ∧ r.count ≤ r.cap

/-- `q[k] <- e` in the storage (R308). -/
def Ring.set (r : Ring) (k : Nat) (e : Entry) : Ring :=
  { r with store := r.store.set ((r.head + k) % r.cap) e }

/-- `Q_ENQUEUE` of a formed entry on a ring that is not full (R308). -/
def Ring.enqueue (r : Ring) (e : Entry) : Ring := { r.set r.count e with count := r.count + 1 }

/-- `Q_POP` (R304, R308). -/
def Ring.pop (r : Ring) : Ring :=
  if r.count = 0 then r else { r with head := (r.head + 1) % r.cap, count := r.count - 1 }

/-- `q[i] <- q[i+1]` for `n` indices from `i` on (R308). -/
def Ring.closeGap (r : Ring) (i : Nat) : Nat → Ring
  | 0 => r
  | n + 1 => Ring.closeGap (r.set i (r.get (i + 1))) (i + 1) n

/-- `Q_POP_ELEMENT(k)` (R305, R308): the head moves for `k = 0`, the later entries move for `k > 0`. -/
def Ring.popElement (r : Ring) (k : Nat) : Ring :=
  if r.count ≤ k then r
  else if k = 0 then r.pop
  else { Ring.closeGap r k (r.count - 1 - k) with count := r.count - 1 }

end Sys2Proof.Machine
end

