-- ==== Sys2Proof/Safety.lean ====
section
/-!
DEFINITION. What counts as a safe state and a safe run, and the words the obligations are stated in. The block has no
fatal condition (60_exceptions.md R380); a run is safe when no step of it stops, and the invariant below is why none
does (10_state.md R45).
-/

namespace Sys2Proof.Machine

/-! ## The invariant -/

/-- The octets `[0..n)` of an array have been written. -/
def Memory.Written (m : Memory) (n : Nat) : Prop := ∀ i, i < n → (m.read i).isSome = true

/-- An array of `cap` octets in canonical form. -/
structure Memory.Sound (m : Memory) (cap : Nat) : Prop where
  wf : m.wf = true
  within : m.within cap = true

/-- The zones CONFIG and SILENCE (00_scope.md R7, R8, 41_silence_tracker.md R183). -/
structure ConfigInv (s : State) : Prop where
  legal : s.cfg.Legal
  max_master_le : s.max_master.toNat ≤ 127
  master_in_range : s.this_station.toNat ≤ 127 → s.this_station.toNat ≤ s.max_master.toNat
  info_frames_pos : 1 ≤ s.max_info_frames.toNat
  silence_le : s.silence_ms ≤ s.cfg.silenceMax

/-- The handoff (10_state.md R45 items 1 and 2). -/
structure HandoffInv (s : State) : Prop where
  valid_alone : s.valid_frame = true → s.valid_frame_not_for_us = false ∧ s.invalid_frame = false
  not_for_us_alone : s.valid_frame_not_for_us = true → s.invalid_frame = false
  valid_done : s.valid_frame = true → s.rx_state = .done
  not_for_us_done : s.valid_frame_not_for_us = true → s.rx_state = .done
  invalid_idle : s.invalid_frame = true → s.rx_state = .idle

/-- The frame in assembly, and the frame under a valid flag: what is written of `input_buffer` and how far `rx_index`
has come (10_state.md R33, R35, R45 item 5; 42_receive_fsm.md R199 to R206). -/
structure AssemblyInv (s : State) : Prop where
  header_index : s.rx_state = .header → s.rx_index.toNat ≤ 4
  data_index : s.rx_state = .data → s.rx_index.toNat < s.rx_data_length.toNat
  data_written : s.rx_state = .data → s.input_buffer.Written (min s.rx_index.toNat s.cfg.maxPdu)
  crc_index : s.rx_state = .dataCrcCheck → s.rx_index.toNat ≤ 1
  crc_written : s.rx_state = .dataCrcCheck →
    s.input_buffer.Written (min s.rx_data_length.toNat s.cfg.maxPdu)
  frame_fits : s.valid_frame = true → s.rx_data_length.toNat ≤ s.cfg.maxPdu
  frame_written : s.valid_frame = true → s.input_buffer.Written s.rx_data_length.toNat

/-- The node machine: a slave's `master_state` rests (47_external_interfaces.md R354), and a request being answered
is there (10_state.md R45 item 6). -/
structure NodeInv (s : State) : Prop where
  slave_idle : isMaster s = false → s.master_state = .idle
  answering_valid : s.master_state = .answerDataRequest → s.valid_frame = true
  answering_der : s.master_state = .answerDataRequest → s.rx_frame_type = ftDer

/-- An entry of the Outgoing PDU Queue (10_state.md R38). -/
structure EntryInv (c : Config) (e : Entry) : Prop where
  length_pos : 1 ≤ e.length.toNat
  length_le : e.length.toNat ≤ c.maxPdu
  sound : e.payload.Sound c.maxPdu
  written : e.payload.Written e.length.toNat

/-- The Outgoing PDU Queue (10_state.md R38, R45 item 4). -/
structure QueueInv (s : State) : Prop where
  count_le : s.q.length ≤ s.cfg.queueCap
  head_lt : s.q_head < s.cfg.queueCap
  entries : ∀ e, e ∈ s.q → EntryInv s.cfg e

/-- The Received Packet Slot (10_state.md R39, R40, R45 items 4 and 5). -/
structure SlotInv (s : State) : Prop where
  length_pos : s.rp_ready = true → 1 ≤ s.rp_length.toNat
  length_le : s.rp_ready = true → s.rp_length.toNat ≤ s.cfg.maxPdu
  written : s.rp_ready = true → s.rp_payload.Written s.rp_length.toNat
  mac_size : s.rp_address.mac.rest.length + 1 = s.cfg.maxMacLen
  adr_size : s.rp_address.adr.rest.length + 1 = s.cfg.maxMacLen

/-- The octet arrays keep their canonical form and their bounds (10_state.md R35, R36, R39; 42_receive_fsm.md R209 e). -/
structure ArrayInv (s : State) : Prop where
  input : s.input_buffer.Sound s.cfg.maxPdu
  output : s.output_buffer.Sound s.cfg.outCap
  packet : s.rp_payload.Sound s.cfg.maxPdu

/-- The upper layer keeps its contract (47_external_interfaces.md R362), and its wait its bound (R353). -/
structure HostInv (s : State) : Prop where
  replies : ∀ r, some r ∈ s.reply_port → replyInContract s.cfg r = true
  wait_le : ∀ n, s.receive_left = some n → n ≤ Config.receiveTimeoutMax

/-- The invariant of the machine: what holds in every state a run reaches (10_state.md R45). -/
structure Inv (s : State) : Prop where
  config : ConfigInv s
  handoff : HandoffInv s
  assembly : AssemblyInv s
  node : NodeInv s
  queue : QueueInv s
  slot : SlotInv s
  arrays : ArrayInv s
  host : HostInv s

/-! ## Safe runs -/

/-- No run from `s` stops: after any number of steps there is a next state (60_exceptions.md R380). -/
def SafeFrom (s : State) : Prop := ∀ n, ∃ t, Sys2Proof.core.run n s = .next t

/-! ## The words of the obligations -/

/-- The data of the frame whose length is `len` is `data`: `input_buffer[0..len) = data` (10_state.md R35). -/
def InputIs (s : State) (len : Half) (data : List Byte) : Prop :=
  octetsOf s.input_buffer s.cfg.maxPdu len.toNat = .ok data

/-- The PDU of a queue entry is `d`: `e.payload[0..e.length) = d` (10_state.md R38). -/
def PayloadIs (c : Config) (e : Entry) (d : List Byte) : Prop :=
  octetsOf e.payload c.maxPdu e.length.toNat = .ok d

/-- No handoff flag is 1. -/
def NoFlag (s : State) : Prop :=
  s.valid_frame = false ∧ s.valid_frame_not_for_us = false ∧ s.invalid_frame = false

/-- The slot after `DELIVER()` of `data` from `src` (47_external_interfaces.md R364). -/
def delivered (src : Byte) (data : List Byte) (s : State) : State :=
  if s.rp_ready = false ∧ 1 ≤ data.length then
    { s with
      rp_address :=
        { mac := { first := src, rest := List.replicate (s.cfg.maxMacLen - 1) 0 }
          mac_len := 1
          net := 0
          len := 0
          adr := { first := 0, rest := List.replicate (s.cfg.maxMacLen - 1) 0 } }
      rp_payload := s.rp_payload.writeSeq 0 data
      rp_length := BitVec.ofNat 16 data.length
      rp_ready := true }
  else s

/-- The state after `ANSWER()` when the upper layer gives `r` to the request `data` from `src` (47_external_interfaces.md
R363); the request is shown on the request port (R369). -/
def answered (src : Byte) (data : List Byte) (r : Option (List Byte)) (s : State) : State :=
  match r with
  | none => { s with reply_request := some (src, data) }
  | some d => { transmit ftDner src s.this_station d s with reply_request := some (src, data) }

/-- The values 10_state.md R46 gives for reset. -/
structure ResetState (s : State) : Prop where
  this_station : s.this_station = 255
  max_master : s.max_master = 127
  max_info_frames : s.max_info_frames = 1
  silence_ms : s.silence_ms = 0
  rx_state : s.rx_state = .idle
  rx_index : s.rx_index = 0
  no_flag : NoFlag s
  master_state : s.master_state = .idle
  next_station : s.next_station = 255
  poll_station : s.poll_station = 255
  frame_count : s.frame_count = 0
  queue_empty : s.q = []
  q_head : s.q_head = 0
  rp_ready : s.rp_ready = false
  rp_length : s.rp_length = 0
  rx_stream : s.rx_stream = []
  tx_stream : s.tx_stream = []

/-- A frame type this block gives no function (30_encoding.md R123 to R127). -/
def isIgnoredType : Instr → Prop
  | .testRequest .. | .testResponse .. | .replyPostponed .. | .reserved08 .. | .reserved10 ..
  | .reserved20 .. | .reserved40 .. | .proprietary .. => True
  | .token .. | .pfm .. | .rpfm .. | .der .. | .dner .. => False
  | .apduConfirmedRequest .. | .apduUnconfirmedRequest .. | .apduSimpleAck .. | .apduComplexAck ..
  | .apduSegmentAck .. | .apduError .. | .apduReject .. | .apduAbort .. | .apduReserved ..
  | .npduControl .. => False

/-- A frame row (30_encoding.md R110, R117). -/
def isFrame (i : Instr) : Prop := i.position = .wire

/-- `MATCH(e)` (46_reply_correlator.md R324, R325) for the reply PDU `p` in a frame from `src` to `dst`, in the rule's own
words. -/
def Matches (s : State) (e : Entry) (p : List Byte) (src dst : Byte) : Prop :=
  ∃ d nq nr iq sq ir sr,
    e.expects_reply = true ∧
    PayloadIs s.cfg e d ∧
    npduParse d = some nq ∧
    npduParse p = some nr ∧
    nq.nlm = false ∧ nr.nlm = false ∧
    nq.version = nr.version ∧
    apduKeyRequest nq.apdu = some (iq, sq) ∧
    apduKeyReply nr.apdu = some (ir, sr) ∧
    iq = ir ∧
    (sr = none ∨ sr = some sq) ∧
    e.destination_mac = src ∧ dst = s.this_station ∧ nq.dst = nr.src ∧ nq.src = nr.dst

/-- `NPDU_PARSE(p)` by positions, line by line as 46_reply_correlator.md R321 writes it. -/
def npduParseByIndex (p : List Byte) : Option Npdu :=
  let at' (i : Nat) : Byte := p.getD i 0
  let specifier (present : Bool) (i : Nat) : Option (Option NetAddress × Nat) :=
    if present then
      if i + 3 > p.length then none
      else
        let net : Half := BitVec.ofNat 16 ((at' i).toNat * 256 + (at' (i + 1)).toNat)
        let n := (at' (i + 2)).toNat
        if i + 3 + n > p.length then none
        else some (some (net, (p.drop (i + 3)).take n), i + 3 + n)
    else some (none, i)
  if p.length < 2 then none
  else
    let ctl := at' 1
    match specifier (ctl.getLsbD 5) 2 with
    | none => none
    | some (dst, i) =>
      match specifier (ctl.getLsbD 3) i with
      | none => none
      | some (src, i) =>
        if ctl.getLsbD 5 = true ∧ i + 1 > p.length then none
        else
          let i := if ctl.getLsbD 5 then i + 1 else i
          some { version := at' 0, nlm := ctl.getLsbD 7, dst := dst, src := src, apdu := p.drop i }

/-- One operation on the Outgoing PDU Queue (45_pdu_queue.md R301, R304). -/
inductive QueueOp where
  | enqueue (dest : Byte) (data : List Byte) (expectsReply : Bool)
  | pop
  deriving DecidableEq, Repr

/-- A sequence of queue operations: the entries popped, the entries accepted, and the state after it. -/
def runQueue : List QueueOp → State → List Entry × List Entry × State
  | [], s => ([], [], s)
  | .enqueue dest data er :: ops, s =>
    let (accepted, s) := qEnqueue dest data er s
    let (popped, taken, s) := runQueue ops s
    (popped, (if accepted then newEntry dest data er :: taken else taken), s)
  | .pop :: ops, s =>
    let out := (qPopped 0 s).toList
    let (popped, taken, s) := runQueue ops (qPop s)
    (out ++ popped, taken, s)

/-- `g` ticks, then one step of RX. -/
def rxAfterTicks (s : State) (g : Nat) : State := rxStep (tick^[g] s)

end Sys2Proof.Machine
end

