-- ==== Sys2Proof/Certificates/Slice0/Obligations.lean ====
section
/-!
DEFINITION. The statements for the provers. Each docstring names the rule of spec/ a statement formalises, or the sentence of
the spec or the log entry it rests on. A statement about a meaning is an equation for the next state, so it says at
once that the instruction completes, what it writes and that it writes nothing else.
-/

open Sys2Proof Sys2Proof.Machine

/-! ## Encodings -/

/-- Decoding the encoding of an instruction, whatever octets follow, gives it back with every operand at any value
(30_encoding.md R110, R117, R131, R132, R142). -/
def Obligations.DecodeEncode : Prop :=
  ∀ (i : Instr) (rest : List Byte), decode i.position (encode i ++ rest) = .ok (i, rest)

/-- The other direction: what decodes to an instruction is its encoding and nothing else; and on the wire exactly the
octets with a preamble and a whole header decode (R110, R111, R129). -/
def Obligations.EncodeDecode : Prop :=
  (∀ (p : Position) (bs rest : List Byte) (i : Instr),
    decode p bs = .ok (i, rest) → i.position = p ∧ encode i ++ rest = bs) ∧
  (∀ bs : List Byte,
    (∃ i rest, decode .wire bs = .ok (i, rest)) ↔ 8 ≤ bs.length ∧ bs[0]? = some 0x55 ∧ bs[1]? = some 0xFF)

/-- A few octets written out from the spec's encodings decode to the instruction they stand for. -/
def Obligations.DecodeWrittenWords : Prop :=
  decode .wire [0x55, 0xFF, 0x00, 0x02, 0x01, 0x00, 0x00, 0x73] = .ok (.token 2 1 0 0x73, []) ∧
  decode .wire [0x55, 0xFF, 0x05, 0x02, 0x01, 0x00, 0x06, 0xE9, 0x01] = .ok (.der 2 1 6 0xE9, [0x01]) ∧
  decode .wire [0x55, 0xFF, 0x8A, 0x10, 0x05, 0x01, 0x02, 0x00] = .ok (.proprietary 0x0A 0x10 0x05 0x0102 0, []) ∧
  decode .apdu [0b00111000, 0x2A] = .ok (.apduComplexAck true false 0, [0x2A]) ∧
  decode .npdu [0b00100110] = .ok (.npduControl false false true false false true 2, [])

/-- When NODE steps next and the frame in the RX registers decodes to `i`, the step is `exec` of `i`: the machine adds
only that the event leaves the agenda (entries 1 and 2). -/
def Obligations.StepRunsDecoded : Prop :=
  ∀ (s : State) (i : Instr) (after : List Event) (rest : List Byte),
    s.agenda = .node :: after → decode .wire (fetchOctets s) = .ok (i, rest) →
      step s = exec i { s with agenda := after }

/-- With a candidate reply before the Reply Correlator, the NODE step is `exec` of its NPDU control octet, and `exec` of
octet 0 of its APDU where the header parses (46_reply_correlator.md R320, R321, R323; entry 12). -/
def Obligations.CorrelatorRunsDecoded : Prop :=
  ∀ (s : State) (p : List Byte), correlating s = true → InputIs s s.rx_data_length p →
    (∀ v c i rest, p = v :: c → decode .npdu c = .ok (i, rest) → exec (fetch s) s = exec i s) ∧
    (∀ nr i rest, npduParse p = some nr → decode .apdu nr.apdu = .ok (i, rest) → exec (fetch s) s = exec i s)

/-- After RX has consumed the six octets of a header, the octets NODE fetches are the frame's own, the header CRC octet
included, whether or not it was right (42_receive_fsm.md R199 to R202; entry 13). -/
def Obligations.FetchedAsReceived : Prop :=
  ∀ (s : State) (ft dst src hi lo crc : Byte),
    s.rx_state = .header → s.rx_index = 0 → s.rx_header_crc = crc8Init →
      fetchOctets ([ft, dst, src, hi, lo, crc].foldl (fun t b => rxOctet b t) s) =
        [0x55, 0xFF, ft, dst, src, hi, lo, crc]

/-! ## Reset and the invariant -/

/-- RESET in any state, and the state a run starts in, hold the values of 10_state.md R46; after it RX can re-arm, the
role is SLAVE and NODE_STEP does nothing (70_reset_and_hazards.md R410). The elements the spec leaves unspecified
are not mentioned. -/
def Obligations.ResetValues : Prop :=
  ResetState State.reset ∧
  ∀ s : State, ∃ t, runEvent .reset s = .next t ∧ ResetState t ∧ rearmEnabled t = true ∧ isMaster t = false ∧
    nodeStep t = .next { t with more_work := false }

/-- The invariant holds after reset, with the default parameters and with any legal ones. -/
def Obligations.ResetInv : Prop :=
  Inv State.reset ∧ ∀ c : Config, c.Legal → Inv (resetWith c)

/-- Every step of every agent keeps the invariant: the flags exclude one another and agree with `rx_state`, the queue
and the slot stay within their bounds, what a valid frame needs has been written, the arrays keep their canonical
form (10_state.md R45; 00_scope.md R8). -/
def Obligations.StepKeepsInv : Prop :=
  ∀ s t : State, Inv s → step s = .next t → Inv t

/-- Every input in every state has a successor: under the invariant no step faults or is refused, and so no run from such
a state, whatever its schedule, ever stops (60_exceptions.md R380). And every such run is weakly fair to NODE and RX
(20_memory.md R91, 47_external_interfaces.md R368): from every state of it a step of NODE, which is always enabled, comes;
and so does a step of RX, or a state in which RX has none. How soon rests on free values (entry 2): no bound is stated. -/
def Obligations.RunsGoOnFairly : Prop :=
  (∀ s : State, Inv s → ∃ t, step s = .next t) ∧ (∀ s : State, Inv s → SafeFrom s) ∧
  (∀ s : State, Inv s → ∃ n t, Sys2Proof.core.run n s = .next t ∧ (takeEvent t).1 = .node) ∧
  (∀ s : State, Inv s → ∃ n t, Sys2Proof.core.run n s = .next t ∧
    ((takeEvent t).1 = .rx ∨
      rearmEnabled t = false ∧ abortEnabled t = false ∧ (rxReady t = false ∨ t.rx_stream = [])))

/-! ## Frame Codec -/

/-- CONSTRUCT_FRAME octet by octet, and its refusal (40_frame_codec.md R154, R155, 30_encoding.md R116). -/
def Obligations.FrameLayout : Prop :=
  ∀ (ft dst src : Byte) (data : List Byte) (cap : Nat), data.length ≤ 65535 →
    let n := data.length
    let header : List Byte := [ft, dst, src, BitVec.ofNat 8 (n / 256), BitVec.ofNat 8 (n % 256)]
    let k := data.foldl (fun c b => crc16Update b c) 0xFFFF ^^^ 0xFFFF
    constructFrame ft dst src data cap =
      if 8 + n + (if n > 0 then 2 else 0) > cap then []
      else
        [0x55, 0xFF] ++ header ++ [header.foldl (fun c b => crc8Update b c) 0xFF ^^^ 0xFF] ++
          (if n > 0 then data ++ [k.extractLsb' 0 8, k.extractLsb' 8 8] else [])

/-- Frame round trip (40_frame_codec.md R159, first property). -/
def Obligations.ParseConstruct : Prop :=
  ∀ (c : Config) (ft dst src : Byte) (data : List Byte), c.Legal → data.length ≤ c.maxPdu →
    parseFrame (constructFrame ft dst src data c.outCap) = some (ft, dst, src, data)

/-- The bit-serial accumulators equal the closed forms of 40_frame_codec.md R150 and R152. -/
def Obligations.CrcClosedForms : Prop :=
  (∀ d c : Byte,
    let t : Half := (c ^^^ d).setWidth 16
    let t := t ^^^ (t <<< 1) ^^^ (t <<< 2) ^^^ (t <<< 3) ^^^ (t <<< 4) ^^^ (t <<< 5) ^^^ (t <<< 6) ^^^ (t <<< 7)
    crc8Update d c = ((t &&& 0x00FE) ^^^ ((t >>> 8) &&& 1)).setWidth 8) ∧
  (∀ (d : Byte) (c : Half),
    let l : Half := (c &&& 0x00FF) ^^^ d.setWidth 16
    crc16Update d c =
      (c >>> 8) ^^^ (l <<< 8) ^^^ (l <<< 3) ^^^ (l <<< 12) ^^^ (l >>> 4) ^^^ (l &&& 0x000F) ^^^ ((l &&& 0x000F) <<< 7))

/-- The receive side accepts exactly the check octets the transmit side computes (40_frame_codec.md R151, R153). -/
def Obligations.ResidueExact : Prop :=
  (∀ (ft dst src : Byte) (len : Half) (c : Byte),
    headerOk ft dst src len c = true ↔ c = headerCrc ft dst src len) ∧
  (∀ (data : List Byte) (lo hi : Byte),
    crc16Over crc16Init (data ++ [lo, hi]) = crc16Residue ↔
      lo = loOctet (dataCrc data) ∧ hi = hiOctet (dataCrc data))

/-- TRANSMIT (40_frame_codec.md R158): the frame stands in `output_buffer[0..length)` and at the end of `tx_stream`; a
non-empty one resets the silence counter; every other octet and every other element is as before. -/
def Obligations.TransmitSpec : Prop :=
  ∀ (ft dst src : Byte) (data : List Byte) (s : State),
    let f := constructFrame ft dst src data s.cfg.outCap
    let t := transmit ft dst src data s
    transmitted ft dst src data s = f.length ∧
    t.tx_stream = s.tx_stream ++ f ∧
    t.silence_ms = (if f.length > 0 then 0 else s.silence_ms) ∧
    (∀ a, a < f.length → t.output_buffer.read a = f[a]?) ∧
    (∀ a, f.length ≤ a → t.output_buffer.read a = s.output_buffer.read a) ∧
    { t with tx_stream := s.tx_stream, silence_ms := s.silence_ms, output_buffer := s.output_buffer } = s

/-! ## Silence Tracker -/

/-- TICK (41_silence_tracker.md R183) and its saturation (R185): one tick adds one up to the counter's maximum and touches
no other element of the block (`receive_left` is the host's own wait, entry 15); any number of ticks stops there. -/
def Obligations.TickSaturates : Prop :=
  (∀ s : State, ∃ t, runEvent .tick s = .next t ∧
    t.silence_ms = min (s.silence_ms + 1) (2 ^ s.cfg.silenceW - 1) ∧
    { t with silence_ms := s.silence_ms, receive_left := s.receive_left } = s) ∧
  (∀ (s : State) (n : Nat), s.silence_ms ≤ 2 ^ s.cfg.silenceW - 1 →
    (tick^[n] s).silence_ms = min (s.silence_ms + n) (2 ^ s.cfg.silenceW - 1))

/-- What resets the counter, exhaustively (41_silence_tracker.md R184): every octet RX consumes (a), every frame NODE sends
(b), `RX_ABORT` (c), the token pass of a master whose successor is itself (d) and RESET (e) leave 0; no other step lowers
the counter. -/
def Obligations.SilenceResets : Prop :=
  ∀ (e : Event) (s t : State), s.silence_ms ≤ s.cfg.silenceMax → runEvent e s = .next t →
    let octet := e = .rx ∧ t.rx_stream ≠ s.rx_stream
    let sent := e = .node ∧ t.tx_stream ≠ s.tx_stream
    let abort := e = .rx ∧ abortEnabled s = true
    let selfPass := e = .node ∧ isMaster s = true ∧ s.master_state = .passToken ∧ s.next_station = s.this_station
    (octet ∨ sent ∨ abort ∨ selfPass ∨ e = .reset → t.silence_ms = 0) ∧
    (t.silence_ms < s.silence_ms → octet ∨ sent ∨ abort ∨ selfPass ∨ e = .reset)

/-! ## Receive Frame State Machine -/

/-- RX_REARM (42_receive_fsm.md R191) and RX_ABORT (R207), which comes before an octet that waits (R192): when they are taken,
what they do, and when they are not taken. -/
def Obligations.RxRearmAndAbort : Prop :=
  (∀ s : State, s.rx_state = .idle ∨ s.rx_state = .done → NoFlag s →
    runEvent .rx s = .next { s with rx_state := .preamble1 }) ∧
  (∀ s : State,
    s.rx_state = .preamble2 ∨ s.rx_state = .header ∨ s.rx_state = .headerCrcCheck ∨ s.rx_state = .data ∨
      s.rx_state = .dataCrcCheck →
    s.cfg.tFrameAbort ≤ s.silence_ms →
      runEvent .rx s = .next { s with invalid_frame := true, rx_state := .idle, silence_ms := 0 }) ∧
  (∀ s t : State, runEvent .rx s = .next t →
    (s.rx_state = .idle ∨ s.rx_state = .done → anyFlag s = true → t.rx_state = s.rx_state) ∧
    (s.rx_state = .idle ∨ s.rx_state = .done ∨ s.rx_state = .preamble1 → t.invalid_frame = s.invalid_frame) ∧
    (s.silence_ms < s.cfg.tFrameAbort → s.rx_stream = [] → t.invalid_frame = s.invalid_frame))

/-- RX_BYTE in PREAMBLE_1 and PREAMBLE_2 (42_receive_fsm.md R193 to R197). -/
def Obligations.RxPreamble : Prop :=
  ∀ (s : State) (b : Byte) (rest : List Byte), s.rx_stream = b :: rest →
    (s.rx_state = .preamble1 → b = 0x55 →
      runEvent .rx s = .next { s with rx_stream := rest, silence_ms := 0, rx_state := .preamble2 }) ∧
    (s.rx_state = .preamble1 → b ≠ 0x55 →
      runEvent .rx s = .next { s with rx_stream := rest, silence_ms := 0 }) ∧
    (s.rx_state = .preamble2 → s.silence_ms < s.cfg.tFrameAbort → b = 0xFF →
      runEvent .rx s = .next { s with
        rx_stream := rest, silence_ms := 0, rx_index := 0, rx_header_crc := 0xFF, rx_state := .header }) ∧
    (s.rx_state = .preamble2 → s.silence_ms < s.cfg.tFrameAbort → b = 0x55 →
      runEvent .rx s = .next { s with rx_stream := rest, silence_ms := 0 }) ∧
    (s.rx_state = .preamble2 → s.silence_ms < s.cfg.tFrameAbort → b ≠ 0xFF → b ≠ 0x55 →
      runEvent .rx s = .next { s with
        rx_stream := rest, silence_ms := 0, invalid_frame := true, rx_state := .idle })

/-- RX_BYTE in HEADER (42_receive_fsm.md R199), one clause per value of `rx_index`. -/
def Obligations.RxHeader : Prop :=
  ∀ (s : State) (b : Byte) (rest : List Byte),
    s.rx_stream = b :: rest → s.rx_state = .header → s.silence_ms < s.cfg.tFrameAbort →
    let u : State :=
      { s with rx_stream := rest, silence_ms := 0, rx_header_crc := crc8Update b s.rx_header_crc }
    (s.rx_index = 0 → runEvent .rx s = .next { u with rx_frame_type := b, rx_index := 1 }) ∧
    (s.rx_index = 1 → runEvent .rx s = .next { u with rx_destination := b, rx_index := 2 }) ∧
    (s.rx_index = 2 → runEvent .rx s = .next { u with rx_source := b, rx_index := 3 }) ∧
    (s.rx_index = 3 →
      runEvent .rx s = .next { u with rx_data_length := BitVec.ofNat 16 (b.toNat * 256), rx_index := 4 }) ∧
    (s.rx_index = 4 →
      runEvent .rx s = .next { u with
        rx_data_length := (s.rx_data_length.extractLsb' 8 8) ++ b, rx_index := 5, rx_state := .headerCrcCheck })

/-- RX_BYTE in HEADER_CRC_CHECK (42_receive_fsm.md R200, R201, R202), with the addressing filter of R205. -/
def Obligations.RxHeaderCrcCheck : Prop :=
  ∀ (s : State) (b : Byte) (rest : List Byte),
    s.rx_stream = b :: rest → s.rx_state = .headerCrcCheck → s.silence_ms < s.cfg.tFrameAbort →
    let c := crc8Update b s.rx_header_crc
    let u : State := { s with rx_stream := rest, silence_ms := 0, rx_header_crc := c }
    (c ≠ 0x55 → runEvent .rx s = .next { u with invalid_frame := true, rx_state := .idle }) ∧
    (c = 0x55 → s.rx_data_length = 0 → s.rx_destination = s.this_station ∨ s.rx_destination = 255 →
      runEvent .rx s = .next { u with rx_state := .done, valid_frame := true }) ∧
    (c = 0x55 → s.rx_data_length = 0 → ¬ (s.rx_destination = s.this_station ∨ s.rx_destination = 255) →
      runEvent .rx s = .next { u with rx_state := .done, valid_frame_not_for_us := true }) ∧
    (c = 0x55 → s.rx_data_length ≠ 0 →
      runEvent .rx s = .next { u with rx_index := 0, rx_data_crc := 0xFFFF, rx_state := .data })

/-- RX_BYTE in DATA (42_receive_fsm.md R203): the octet goes to `input_buffer[rx_index]` when there is room, and every
other octet of the buffer is as before. -/
def Obligations.RxData : Prop :=
  ∀ (s : State) (b : Byte) (rest : List Byte),
    s.rx_stream = b :: rest → s.rx_state = .data → s.silence_ms < s.cfg.tFrameAbort →
    ∃ m : Memory,
      (s.rx_index.toNat < s.cfg.maxPdu → m.read s.rx_index.toNat = some b) ∧
      (∀ a, a ≠ s.rx_index.toNat ∨ s.cfg.maxPdu ≤ s.rx_index.toNat → m.read a = s.input_buffer.read a) ∧
      runEvent .rx s = .next { s with
        rx_stream := rest
        silence_ms := 0
        rx_data_crc := crc16Update b s.rx_data_crc
        input_buffer := m
        rx_index := if s.rx_index + 1 = s.rx_data_length then 0 else s.rx_index + 1
        rx_state := if s.rx_index + 1 = s.rx_data_length then .dataCrcCheck else .data }

/-- RX_BYTE in DATA_CRC_CHECK (42_receive_fsm.md R204, R206), with the addressing filter of R205. -/
def Obligations.RxDataCrcCheck : Prop :=
  ∀ (s : State) (b : Byte) (rest : List Byte),
    s.rx_stream = b :: rest → s.rx_state = .dataCrcCheck → s.silence_ms < s.cfg.tFrameAbort →
    let c := crc16Update b s.rx_data_crc
    let u : State := { s with rx_stream := rest, silence_ms := 0, rx_data_crc := c }
    (s.rx_index = 0 → runEvent .rx s = .next { u with rx_index := 1 }) ∧
    (s.rx_index = 1 → c = 0xF0B8 → s.rx_data_length.toNat ≤ s.cfg.maxPdu →
      s.rx_destination = s.this_station ∨ s.rx_destination = 255 →
        runEvent .rx s = .next { u with rx_index := 2, rx_state := .done, valid_frame := true }) ∧
    (s.rx_index = 1 → c = 0xF0B8 → s.rx_data_length.toNat ≤ s.cfg.maxPdu →
      ¬ (s.rx_destination = s.this_station ∨ s.rx_destination = 255) →
        runEvent .rx s = .next { u with rx_index := 2, rx_state := .done, valid_frame_not_for_us := true }) ∧
    (s.rx_index = 1 → c ≠ 0xF0B8 ∨ s.cfg.maxPdu < s.rx_data_length.toNat →
        runEvent .rx s = .next { u with rx_index := 2, rx_state := .idle, invalid_frame := true })

/-- What a step of RX leaves alone, in every state (10_state.md R21, 42_receive_fsm.md R208, R209 e): the zones of CONFIG,
NODE, QUEUE and SLOT, `tx_stream` and every octet of `input_buffer` but the one at `rx_index` in state DATA; it
clears no flag and takes at most one octet. -/
def Obligations.RxFrame : Prop :=
  ∀ s t : State, runEvent .rx s = .next t →
    (∀ a, s.rx_state ≠ .data ∨ a ≠ s.rx_index.toNat ∨ s.cfg.maxPdu ≤ a →
      t.input_buffer.read a = s.input_buffer.read a) ∧
    (s.valid_frame = true → t.valid_frame = true) ∧
    (s.valid_frame_not_for_us = true → t.valid_frame_not_for_us = true) ∧
    (s.invalid_frame = true → t.invalid_frame = true) ∧
    (t.rx_stream = s.rx_stream ∨ ∃ b, s.rx_stream = b :: t.rx_stream) ∧
    { t with
      silence_ms := s.silence_ms, rx_state := s.rx_state, rx_index := s.rx_index
      rx_frame_type := s.rx_frame_type, rx_destination := s.rx_destination, rx_source := s.rx_source
      rx_data_length := s.rx_data_length, rx_header_crc := s.rx_header_crc, rx_data_crc := s.rx_data_crc
      input_buffer := s.input_buffer, valid_frame := s.valid_frame
      valid_frame_not_for_us := s.valid_frame_not_for_us, invalid_frame := s.invalid_frame
      rx_stream := s.rx_stream } = s

/-- Completeness of reception (42_receive_fsm.md R209 c): a constructed frame, fed octet by octet with fewer than
`T_FRAME_ABORT` ticks between two octets, is received with its type, addresses, length and data and with the flag
its destination gives. -/
def Obligations.RxAcceptsFrame : Prop :=
  ∀ (s : State) (ft dst src : Byte) (data rest : List Byte) (gaps : List Nat),
    s.cfg.Legal → NoFlag s → s.rx_state = .preamble1 → data.length ≤ s.cfg.maxPdu →
    let f := constructFrame ft dst src data s.cfg.outCap
    s.rx_stream = f ++ rest → gaps.length = f.length → (∀ g, g ∈ gaps.tail → g < s.cfg.tFrameAbort) →
    let t := gaps.foldl rxAfterTicks s
    t.rx_state = .done ∧ t.rx_stream = rest ∧ t.rx_frame_type = ft ∧ t.rx_destination = dst ∧ t.rx_source = src ∧
    t.rx_data_length.toNat = data.length ∧ InputIs t t.rx_data_length data ∧
    t.valid_frame = decide (dst = s.this_station ∨ dst = 255) ∧
    t.valid_frame_not_for_us = decide (¬ (dst = s.this_station ∨ dst = 255)) ∧ t.invalid_frame = false

/-- Soundness of reception (42_receive_fsm.md R209 d, 40_frame_codec.md R159): a constructed frame with one octet after the
preamble changed (so also with one bit inverted) never ends as valid or as not for us, however RX and the clock
interleave; it ends as invalid. -/
def Obligations.RxRejectsDamage : Prop :=
  ∀ (s : State) (ft dst src : Byte) (data : List Byte) (k : Nat) (b : Byte) (gaps : List Nat),
    s.cfg.Legal → NoFlag s → s.rx_state = .preamble1 → data.length ≤ s.cfg.maxPdu →
    let f := constructFrame ft dst src data s.cfg.outCap
    2 ≤ k → k < f.length → f[k]? ≠ some b → s.rx_stream = f.set k b →
    let t := gaps.foldl rxAfterTicks s
    t.valid_frame = false ∧ t.valid_frame_not_for_us = false ∧
    (f.length ≤ gaps.length → t.invalid_frame = true ∧ t.rx_state = .idle)

/-- The handoff contract (10_state.md R45 item 3, 42_receive_fsm.md R208): while a flag is 1 no event but RESET changes an
RX register (`rx_state`, `rx_index`, the header registers, the two CRC accumulators) or an octet of `input_buffer`, and only NODE or RESET clears the flag. -/
def Obligations.HandoffStable : Prop :=
  ∀ (e : Event) (s t : State), HandoffInv s → anyFlag s = true → e ≠ .reset → runEvent e s = .next t →
    t.rx_state = s.rx_state ∧ t.rx_frame_type = s.rx_frame_type ∧ t.rx_destination = s.rx_destination ∧
    t.rx_source = s.rx_source ∧ t.rx_data_length = s.rx_data_length ∧ t.rx_index = s.rx_index ∧
    t.rx_header_crc = s.rx_header_crc ∧ t.rx_data_crc = s.rx_data_crc ∧
    (∀ a, t.input_buffer.read a = s.input_buffer.read a) ∧
    (e ≠ .node → t.valid_frame = s.valid_frame ∧ t.valid_frame_not_for_us = s.valid_frame_not_for_us ∧
      t.invalid_frame = s.invalid_frame)

/-! ## NODE: what every instruction leaves alone -/

/-- The frame of every instruction: `exec` changes neither CONFIG nor the RX zone nor `rx_stream` (10_state.md R21); it
sends a whole number of octets `f` at the end of `tx_stream`, the same octets stand in `output_buffer[0..length f)`
and no other octet of that array changes; the slot changes only from empty to full, and no octet of it beyond
`rp_length` does; a flag is cleared, never raised; the queue loses at most one entry. -/
def Obligations.ExecFrame : Prop :=
  ∀ (i : Instr) (s t : State), exec i s = .next t →
    (∃ f : List Byte, t.tx_stream = s.tx_stream ++ f ∧ (f ≠ [] → t.silence_ms = 0) ∧
      (∀ a, a < f.length → t.output_buffer.read a = f[a]?) ∧
      (∀ a, f.length ≤ a → t.output_buffer.read a = s.output_buffer.read a)) ∧
    (t.silence_ms = s.silence_ms ∨ t.silence_ms = 0) ∧
    ((t.rp_ready = s.rp_ready ∧ t.rp_address = s.rp_address ∧ t.rp_length = s.rp_length ∧
        ∀ a, t.rp_payload.read a = s.rp_payload.read a) ∨
      (s.rp_ready = false ∧ t.rp_ready = true ∧
        ∀ a, t.rp_length.toNat ≤ a → t.rp_payload.read a = s.rp_payload.read a)) ∧
    (∀ a, t.input_buffer.read a = s.input_buffer.read a) ∧
    (t.valid_frame = true → s.valid_frame = true) ∧
    (t.valid_frame_not_for_us = true → s.valid_frame_not_for_us = true) ∧
    (t.invalid_frame = true → s.invalid_frame = true) ∧
    (t.q = s.q ∨ ∃ k, t.q = s.q.eraseIdx k) ∧
    { t with
      silence_ms := s.silence_ms, valid_frame := s.valid_frame
      valid_frame_not_for_us := s.valid_frame_not_for_us, invalid_frame := s.invalid_frame
      master_state := s.master_state, next_station := s.next_station, poll_station := s.poll_station
      frame_count := s.frame_count, output_buffer := s.output_buffer, q := s.q, q_head := s.q_head
      rp_ready := s.rp_ready, rp_address := s.rp_address, rp_payload := s.rp_payload, rp_length := s.rp_length
      tx_stream := s.tx_stream, more_work := s.more_work, reply_request := s.reply_request
      reply_port := s.reply_port, asked := s.asked } = s

/-- `next_addr` (43_master_fsm.md R231), and when a master's successor is itself. -/
def Obligations.NextAddrCycle : Prop :=
  (∀ (s : State) (a : Byte), (nextAddr s a).toNat = (a.toNat + 1) % (s.max_master.toNat + 1)) ∧
  (∀ (s : State) (a : Byte), (nextAddr s a).toNat ≤ s.max_master.toNat) ∧
  (∀ s : State, isMaster s = true → (nextAddr s s.this_station = s.this_station ↔ s.max_master = 0))

/-! ## NODE in role MASTER: the steps every frame row shares

`more_work` is the value a NODE step returns (43_master_fsm.md R233), kept in a field of that name (entry 14). -/

/-- IDLE with all flags 0 (43_master_fsm.md R244, R246), whatever frame is left in the RX registers. -/
def Obligations.IdleQuiet : Prop :=
  ∀ (i : Instr) (s : State), isFrame i → isMaster s = true → s.master_state = .idle → NoFlag s →
    let p : Byte := BitVec.ofNat 8 ((s.this_station.toNat + 1) % (s.max_master.toNat + 1))
    (s.silence_ms < s.cfg.tNoToken + s.cfg.tSlot * s.this_station.toNat →
      exec i s = .next { s with more_work := false }) ∧
    (s.cfg.tNoToken + s.cfg.tSlot * s.this_station.toNat ≤ s.silence_ms → p = s.this_station →
      exec i s = .next { s with
        poll_station := p, frame_count := 0, master_state := .useToken, more_work := true }) ∧
    (s.cfg.tNoToken + s.cfg.tSlot * s.this_station.toNat ≤ s.silence_ms → p ≠ s.this_station →
      exec i s = .next { transmit 0x01 p s.this_station [] s with
        poll_station := p, master_state := .pollForMaster, more_work := false })

/-- USE_TOKEN (43_master_fsm.md R250, R251), whatever the flags (R232): the end of the budget, a request sent and
awaited, a PDU sent and removed. -/
def Obligations.UseToken : Prop :=
  ∀ (i : Instr) (s : State), isFrame i → isMaster s = true → s.master_state = .useToken →
    (s.q = [] ∨ s.max_info_frames.toNat ≤ s.frame_count.toNat →
      exec i s = .next { s with master_state := .doneWithToken, more_work := true }) ∧
    (∀ e rest d, s.q = e :: rest → s.frame_count.toNat < s.max_info_frames.toNat → PayloadIs s.cfg e d →
      (e.expects_reply = true →
        exec i s = .next { transmit 0x05 e.destination_mac s.this_station d s with
          frame_count := s.frame_count + 1, master_state := .waitForReply, more_work := false }) ∧
      (e.expects_reply = false →
        exec i s = .next { transmit 0x06 e.destination_mac s.this_station d s with
          frame_count := s.frame_count + 1, q := rest, q_head := (s.q_head + 1) % s.cfg.queueCap
          more_work := true }))

/-- WAIT_FOR_REPLY with all flags 0 (43_master_fsm.md R259, R260). -/
def Obligations.WaitQuiet : Prop :=
  ∀ (i : Instr) (s : State), isFrame i → isMaster s = true → s.master_state = .waitForReply → NoFlag s →
    (s.silence_ms < s.cfg.tReplyTimeout → exec i s = .next { s with more_work := false }) ∧
    (s.cfg.tReplyTimeout ≤ s.silence_ms → s.cfg.derTimeoutRetain = true ∨ s.q = [] →
      exec i s = .next { s with master_state := .doneWithToken, more_work := true }) ∧
    (∀ e rest, s.cfg.tReplyTimeout ≤ s.silence_ms → s.cfg.derTimeoutRetain = false → s.q = e :: rest →
      exec i s = .next { s with
        q := rest, q_head := (s.q_head + 1) % s.cfg.queueCap, master_state := .doneWithToken, more_work := true })

/-- DONE_WITH_TOKEN and PASS_TOKEN (43_master_fsm.md R262, R264, R265), whatever the flags (R232). -/
def Obligations.TokenRelease : Prop :=
  ∀ (i : Instr) (s : State), isFrame i → isMaster s = true →
    (s.master_state = .doneWithToken →
      exec i s = .next { s with
        next_station := BitVec.ofNat 8 ((s.this_station.toNat + 1) % (s.max_master.toNat + 1))
        master_state := .passToken, more_work := true }) ∧
    (s.master_state = .passToken → s.next_station ≠ s.this_station →
      exec i s = .next { transmit 0x00 s.next_station s.this_station [] s with
        master_state := .noToken, more_work := false }) ∧
    (s.master_state = .passToken → s.next_station = s.this_station →
      exec i s = .next { s with silence_ms := 0, master_state := .noToken, more_work := false })

/-- NO_TOKEN with all flags 0 (43_master_fsm.md R267, R268, R269). -/
def Obligations.NoTokenQuiet : Prop :=
  ∀ (i : Instr) (s : State), isFrame i → isMaster s = true → s.master_state = .noToken → NoFlag s →
    let p : Byte := BitVec.ofNat 8 ((s.next_station.toNat + 1) % (s.max_master.toNat + 1))
    let expand := s.cfg.ringExpand = true ∧ s.cfg.tUsageTimeout ≤ s.silence_ms
    (expand → p = s.this_station →
      exec i s = .next { s with
        poll_station := p, frame_count := 0, master_state := .useToken, more_work := true }) ∧
    (expand → p ≠ s.this_station →
      exec i s = .next { transmit 0x01 p s.this_station [] s with
        poll_station := p, master_state := .pollForMaster, more_work := false }) ∧
    (¬ expand → s.cfg.tNoToken ≤ s.silence_ms →
      exec i s = .next { s with master_state := .idle, more_work := true }) ∧
    (¬ expand → s.silence_ms < s.cfg.tNoToken → exec i s = .next { s with more_work := false })

/-- POLL_FOR_MASTER: the window open, closed by silence (43_master_fsm.md R276, R277) or by a damaged frame (R275); and the
sweep's end (R276): from any address of `0..max_master` the master's own is reached in at most `max_master` moves. -/
def Obligations.PollWindow : Prop :=
  (∀ (i : Instr) (s : State), isFrame i → isMaster s = true → s.master_state = .pollForMaster →
    let p : Byte := BitVec.ofNat 8 ((s.poll_station.toNat + 1) % (s.max_master.toNat + 1))
    let closed := s.valid_frame = false ∧ s.valid_frame_not_for_us = false ∧
      (s.invalid_frame = true ∨ s.cfg.tUsageTimeout ≤ s.silence_ms)
    (NoFlag s → s.silence_ms < s.cfg.tUsageTimeout → exec i s = .next { s with more_work := false }) ∧
    (closed → p = s.this_station →
      exec i s = .next { s with
        invalid_frame := false, frame_count := 0, master_state := .useToken, more_work := true }) ∧
    (closed → p ≠ s.this_station →
      exec i s = .next { transmit 0x01 p s.this_station [] s with
        invalid_frame := false, poll_station := p, more_work := false })) ∧
  (∀ (s : State) (a : Byte), isMaster s = true → a.toNat ≤ s.max_master.toNat →
    ∃ k, k ≤ s.max_master.toNat ∧ (nextAddr s)^[k] a = s.this_station)

/-- ANSWER_DATA_REQUEST (43_master_fsm.md R280, 47_external_interfaces.md R363), for an answer of the upper layer, for the
free answer (entry 7), and for one outside its contract (the model's refusal, entry 8; 93 I14). -/
def Obligations.AnswerDataRequest : Prop :=
  ∀ (i : Instr) (s : State), isFrame i → isMaster s = true → s.master_state = .answerDataRequest →
    (s.valid_frame = false → exec i s = .next { s with master_state := .idle, more_work := false }) ∧
    (∀ data, s.valid_frame = true → InputIs s s.rx_data_length data →
      (∀ r rest, s.reply_port = r :: rest → (∀ d, r = some d → 1 ≤ d.length ∧ d.length ≤ s.cfg.maxPdu) →
        exec i s = .next { answered s.rx_source data r s with
          reply_port := rest, valid_frame := false, master_state := .idle, more_work := false }) ∧
      (s.reply_port = [] → ∃ r, (∀ d, r = some d → 1 ≤ d.length ∧ d.length ≤ s.cfg.maxPdu) ∧
        exec i s = .next { answered s.rx_source data r s with
          asked := s.asked + 1, valid_frame := false, master_state := .idle, more_work := false }) ∧
      (∀ d rest, s.reply_port = some d :: rest → d.length = 0 ∨ s.cfg.maxPdu < d.length →
        exec i s = .refused .replyOutsideContract))

/-- A raised flag that stands for no frame for this station is cleared and nothing else happens: a damaged frame
(43_master_fsm.md R235, R255, 44_slave_fsm.md R291), a frame for another station (R236, R256, R292). -/
def Obligations.FlagCleared : Prop :=
  ∀ (i : Instr) (s : State), isFrame i →
    isMaster s = false ∨ s.master_state = .idle ∨ s.master_state = .waitForReply → s.valid_frame = false →
    (s.valid_frame_not_for_us = true →
      exec i s = .next { s with valid_frame_not_for_us := false, more_work := false }) ∧
    (s.valid_frame_not_for_us = false → s.invalid_frame = true →
      exec i s = .next { s with invalid_frame := false, more_work := false })

/-- The frame is left for IDLE with its flag raised: any flag in NO_TOKEN (43_master_fsm.md R266); in POLL_FOR_MASTER a
frame for another station, or a valid one that is no RPFM for this station (R274). -/
def Obligations.FrameLeftForIdle : Prop :=
  ∀ (i : Instr) (s : State), isFrame i → isMaster s = true →
    (s.master_state = .noToken → anyFlag s = true →
      exec i s = .next { s with master_state := .idle, more_work := true }) ∧
    (s.master_state = .pollForMaster → s.valid_frame = false → s.valid_frame_not_for_us = true →
      exec i s = .next { s with master_state := .idle, more_work := true }) ∧
    (s.master_state = .pollForMaster → s.valid_frame = true →
      (∀ src len h, i ≠ .rpfm s.this_station src len h) →
      exec i s = .next { s with master_state := .idle, more_work := true })

/-! ## NODE: the frame types -/

/-- A token for a master in IDLE is taken (43_master_fsm.md R237); a request for it is kept for ANSWER_DATA_REQUEST
(R240). -/
def Obligations.TokenTakenRequestKept : Prop :=
  ∀ (s : State) (dst src : Byte) (len : Half) (h : Byte),
    isMaster s = true → s.master_state = .idle → s.valid_frame = true → dst = s.this_station →
      exec (.token dst src len h) s = .next { s with
        valid_frame := false, frame_count := 0, master_state := .useToken, more_work := true } ∧
      exec (.der dst src len h) s = .next { s with master_state := .answerDataRequest, more_work := true }

/-- A poll for a master in IDLE is answered (43_master_fsm.md R238); the reply to a poll makes its sender the successor
(R273). -/
def Obligations.PollAnsweredReplyAccepted : Prop :=
  ∀ (s : State) (dst src : Byte) (len : Half) (h : Byte),
    isMaster s = true → s.valid_frame = true → dst = s.this_station →
      (s.master_state = .idle →
        exec (.pfm dst src len h) s = .next { transmit 0x02 src s.this_station [] s with
          valid_frame := false, more_work := false }) ∧
      (s.master_state = .pollForMaster →
        exec (.rpfm dst src len h) s = .next { s with
          next_station := src, valid_frame := false, master_state := .passToken, more_work := true })

/-- A request for a slave is answered in the same step (44_slave_fsm.md R293, 47_external_interfaces.md R363), for an answer
of the upper layer, for the free answer (entry 7), and for one outside its contract (the model's refusal, entry 8). -/
def Obligations.SlaveAnswers : Prop :=
  ∀ (s : State) (dst src : Byte) (len : Half) (h : Byte) (data : List Byte),
    isMaster s = false → s.valid_frame = true → dst = s.this_station → dst ≠ 255 → InputIs s len data →
      (∀ r rest, s.reply_port = r :: rest → (∀ d, r = some d → 1 ≤ d.length ∧ d.length ≤ s.cfg.maxPdu) →
        exec (.der dst src len h) s = .next { answered src data r s with
          reply_port := rest, valid_frame := false, more_work := false }) ∧
      (s.reply_port = [] → ∃ r, (∀ d, r = some d → 1 ≤ d.length ∧ d.length ≤ s.cfg.maxPdu) ∧
        exec (.der dst src len h) s = .next { answered src data r s with
          asked := s.asked + 1, valid_frame := false, more_work := false }) ∧
      (∀ d rest, s.reply_port = some d :: rest → d.length = 0 ∨ s.cfg.maxPdu < d.length →
        exec (.der dst src len h) s = .refused .replyOutsideContract)

/-- Data for the upper layer: a DNER for this station or broadcast (43_master_fsm.md R239, 44_slave_fsm.md R294) and a
broadcast DER (R241, R295) are delivered by a slave and by a master in IDLE, and the flag is cleared. -/
def Obligations.DataDelivered : Prop :=
  ∀ (s : State) (dst src : Byte) (len : Half) (h : Byte) (data : List Byte),
    isMaster s = false ∨ s.master_state = .idle → s.valid_frame = true → InputIs s len data →
      (dst = s.this_station ∨ dst = 255 →
        exec (.dner dst src len h) s = .next { delivered src data s with
          valid_frame := false, more_work := false }) ∧
      (dst = 255 → ¬ (isMaster s = true ∧ s.this_station = 255) →
        exec (.der dst src len h) s = .next { delivered src data s with
          valid_frame := false, more_work := false })

/-- DELIVER (47_external_interfaces.md R364), octet by octet: an empty slot takes the frame's data, address and length, and
no octet beyond them changes; a full slot, or a frame without data, changes nothing. -/
def Obligations.DeliverSlot : Prop :=
  ∀ (s : State) (src : Byte) (len : Half) (data : List Byte), InputIs s len data →
    ∃ t, deliver src len s = .next t ∧
      (s.rp_ready = true ∨ len = 0 → t = s) ∧
      (s.rp_ready = false → len ≠ 0 →
        t.rp_ready = true ∧ t.rp_length = len ∧ t.rp_address = fillAddress s.cfg src ∧
        (∀ a, a < len.toNat → t.rp_payload.read a = data[a]?) ∧
        (∀ a, len.toNat ≤ a → t.rp_payload.read a = s.rp_payload.read a) ∧
        { t with
          rp_ready := s.rp_ready, rp_length := s.rp_length, rp_address := s.rp_address
          rp_payload := s.rp_payload } = s)

/-- What a master in IDLE (43_master_fsm.md R242) and a slave (44_slave_fsm.md R296) drop: every frame of a type with no
function and every RPFM; a token or a poll that is broadcast or at a slave; and a data frame that is neither for this
station nor broadcast any more. -/
def Obligations.OtherFramesDropped : Prop :=
  ∀ (i : Instr) (s : State), isMaster s = false ∨ s.master_state = .idle → s.valid_frame = true →
    isIgnoredType i ∨ (∃ dst src len h, i = .rpfm dst src len h) ∨
    (∃ dst src len h, (i = .token dst src len h ∨ i = .pfm dst src len h) ∧
      (isMaster s = false ∨ dst ≠ s.this_station)) ∨
    (∃ dst src len h, (i = .der dst src len h ∨ i = .dner dst src len h) ∧ dst ≠ s.this_station ∧ dst ≠ 255) →
      exec i s = .next { s with valid_frame := false, more_work := false }

/-- A valid frame in WAIT_FOR_REPLY (43_master_fsm.md R257, R258): a DNER for this station is correlated, and the matched
entry leaves the queue and the reply is delivered, or the frame is dropped; every other valid frame is dropped. -/
def Obligations.WaitForReplyFrame : Prop :=
  (∀ (s : State) (src : Byte) (len : Half) (h : Byte) (p : List Byte),
    isMaster s = true → s.master_state = .waitForReply → s.valid_frame = true → InputIs s len p →
      (∀ k, correlate p src s.this_station s = .ok (some k) →
        exec (.dner s.this_station src len h) s =
          .next { delivered src p (qPopElement k s) with
            valid_frame := false, master_state := .useToken, more_work := true }) ∧
      (correlate p src s.this_station s = .ok none →
        exec (.dner s.this_station src len h) s = .next { s with valid_frame := false, more_work := false })) ∧
  (∀ (i : Instr) (s : State), isFrame i → isMaster s = true → s.master_state = .waitForReply →
    s.valid_frame = true → (∀ src len h, i ≠ .dner s.this_station src len h) →
      exec i s = .next { s with valid_frame := false, more_work := false })

/-- NODE_STEP in role SLAVE with all flags 0 (44_slave_fsm.md R297), and what no step of a slave does (R290, R298): it leaves
the master's registers and the queue alone, reports no more work, and the only frame it ever sends is the DNER that
answers a request for its own address. -/
def Obligations.SlaveNeverOriginates : Prop :=
  ∀ (i : Instr) (s : State), isFrame i → isMaster s = false →
    (NoFlag s → exec i s = .next { s with more_work := false }) ∧
    (∀ t, exec i s = .next t →
      t.master_state = s.master_state ∧ t.next_station = s.next_station ∧ t.poll_station = s.poll_station ∧
      t.frame_count = s.frame_count ∧ t.q = s.q ∧ t.more_work = false ∧
      (t.tx_stream = s.tx_stream ∨
        ∃ src len h d, i = .der s.this_station src len h ∧ s.valid_frame = true ∧ s.this_station ≠ 255 ∧
          t.tx_stream = s.tx_stream ++ constructFrame 0x06 src s.this_station d s.cfg.outCap))

/-- An unconfigured block never transmits (70_reset_and_hazards.md R412): with `this_station = 255` no event appends an
octet to `tx_stream`. -/
def Obligations.UnconfiguredIsSilent : Prop :=
  ∀ (e : Event) (s t : State), s.this_station = 255 → s.max_master.toNat ≤ 127 → runEvent e s = .next t →
    t.tx_stream = s.tx_stream ∨ (e = .portTx ∧ t.tx_stream = s.tx_stream.tail) ∨ (e = .reset ∧ t.tx_stream = [])

/-- A master in USE_TOKEN with an empty queue releases the token in one cycle (43_master_fsm.md R282 a): two NODE steps
with more work reach PASS_TOKEN, and the third passes the token to `next_addr` of its own address. -/
def Obligations.TokenReleasedInOneCycle : Prop :=
  ∀ (s : State) (after : List Event), isMaster s = true → s.master_state = .useToken → s.q = [] →
    s.agenda = .node :: .node :: .node :: after →
    let next : Byte := BitVec.ofNat 8 ((s.this_station.toNat + 1) % (s.max_master.toNat + 1))
    (∃ t, Sys2Proof.core.run 1 s = .next t ∧ t.more_work = true ∧ t.master_state = .doneWithToken) ∧
    (∃ t, Sys2Proof.core.run 2 s = .next t ∧ t.more_work = true ∧ t.master_state = .passToken) ∧
    (next ≠ s.this_station →
      Sys2Proof.core.run 3 s = .next { transmit 0x00 next s.this_station [] s with
        next_station := next, master_state := .noToken, more_work := false, agenda := after })

/-! ## The Reply Correlator -/

/-- The PDU rows: with a candidate reply before the correlator, its NPDU control octet and octet 0 of its APDU each run the
correlation of the reply (46_reply_correlator.md R320 to R327, 43_master_fsm.md R257, R258); with none, no PDU row has an
effect (the model's choice, entry 12). An APDU that is no reply never matches, whatever is queued (R323). -/
def Obligations.PduRowsCorrelate : Prop :=
  (∀ (i : Instr) (s : State) (p : List Byte), correlating s = true → InputIs s s.rx_data_length p →
    (∃ v c rest, p = v :: c :: rest ∧ i = decodeNpduControl c) ∨
      (∃ nr a0 a, npduParse p = some nr ∧ nr.apdu = a0 :: a ∧ i = decodeApdu a0) →
    (∀ k, correlate p s.rx_source s.rx_destination s = .ok (some k) →
      exec i s = .next { delivered s.rx_source p (qPopElement k s) with
        valid_frame := false, master_state := .useToken, more_work := true }) ∧
    (correlate p s.rx_source s.rx_destination s = .ok none →
      exec i s = .next { s with valid_frame := false, more_work := false })) ∧
  (∀ (s : State) (p : List Byte), correlating s = true → InputIs s s.rx_data_length p →
    (∀ seg mor sa x,
      exec (.apduConfirmedRequest seg mor sa x) s = .next { s with valid_frame := false, more_work := false }) ∧
    (∀ x, exec (.apduUnconfirmedRequest x) s = .next { s with valid_frame := false, more_work := false }) ∧
    (∀ x, exec (.apduReserved x) s = .next { s with valid_frame := false, more_work := false })) ∧
  (∀ (i : Instr) (s : State), ¬ isFrame i → correlating s = false → exec i s = .next s)

/-- NPDU_PARSE, APDU_KEY_REQUEST and APDU_KEY_REPLY (46_reply_correlator.md R321, R322, R323) on every octet sequence, by
positions, line by line as the rules write them. -/
def Obligations.CorrelatorDecodesByIndex : Prop :=
  (∀ p : List Byte, npduParse p = npduParseByIndex p) ∧
  (∀ a : List Byte, apduKeyRequest a =
    if a.length < 1 ∨ (a.getD 0 0).toNat / 16 ≠ 0 then none
    else
      let seg := (a.getD 0 0).getLsbD 3
      if a.length < (if seg then 6 else 4) then none
      else some (a.getD 2 0, if seg then a.getD 5 0 else a.getD 3 0)) ∧
  (∀ a : List Byte, apduKeyReply a =
    if a.length < 1 then none
    else
      let t := (a.getD 0 0).toNat / 16
      if t = 2 ∨ t = 5 then
        if a.length < 3 then none else some (a.getD 1 0, some (a.getD 2 0))
      else if t = 3 then
        let seg := (a.getD 0 0).getLsbD 3
        if a.length < (if seg then 5 else 3) then none
        else some (a.getD 1 0, some (if seg then a.getD 4 0 else a.getD 2 0))
      else if t = 4 ∨ t = 6 ∨ t = 7 then
        if a.length < 2 then none else some (a.getD 1 0, none)
      else none)

/-- CORRELATE (46_reply_correlator.md R327) gives the first entry that matches in the sense of R324 and R325, or none. -/
def Obligations.CorrelateFirstMatch : Prop :=
  ∀ (s : State) (p : List Byte) (src dst : Byte),
    (∀ e, e ∈ s.q → e.expects_reply = true → ∃ d, PayloadIs s.cfg e d) →
    (∀ k, correlate p src dst s = .ok (some k) ↔
      (∃ e, s.q[k]? = some e ∧ Matches s e p src dst) ∧
        ∀ j e, j < k → s.q[j]? = some e → ¬ Matches s e p src dst) ∧
    (correlate p src dst s = .ok none ↔ ∀ e, e ∈ s.q → ¬ Matches s e p src dst)

/-! ## The Outgoing PDU Queue -/

/-- Q_ENQUEUE (45_pdu_queue.md R301): queue-full, a PDU that does not fit an entry, and an accepted one, whose entry holds
exactly the operands. -/
def Obligations.QueueEnqueue : Prop :=
  ∀ (s : State) (dest : Byte) (data : List Byte) (er : Bool), s.cfg.Legal →
    (s.q.length = s.cfg.queueCap → qEnqueue dest data er s = (false, s)) ∧
    (data.length = 0 ∨ s.cfg.maxPdu < data.length → qEnqueue dest data er s = (false, s)) ∧
    (s.q.length ≠ s.cfg.queueCap → 1 ≤ data.length → data.length ≤ s.cfg.maxPdu →
      ∃ e, qEnqueue dest data er s = (true, { s with q := s.q ++ [e] }) ∧ PayloadIs s.cfg e data ∧
        e.length.toNat = data.length ∧ e.destination_mac = dest ∧ e.expects_reply = er)

/-- Q_PEEK, Q_PEEK_NEXT, Q_POP, Q_POP_ELEMENT (45_pdu_queue.md R302 to R305): what they return, which entry leaves, and
that every other entry keeps its order. -/
def Obligations.QueueReadAndPop : Prop :=
  ∀ (s : State) (k : Nat),
    (qPeek s = if 0 < s.q.length then s.q[0]? else none) ∧
    (qPeekNext k s = if h : k + 1 < s.q.length then some (k + 1, s.q[k + 1]) else none) ∧
    (qPopped k s = if h : k < s.q.length then some s.q[k] else none) ∧
    (s.q.length ≤ k → qPopElement k s = s) ∧
    (k < s.q.length →
      (qPopElement k s).q.length + 1 = s.q.length ∧
      (∀ j, j < k → (qPopElement k s).q[j]? = s.q[j]?) ∧
      (∀ j, k ≤ j → (qPopElement k s).q[j]? = s.q[j + 1]?) ∧
      { qPopElement k s with q := s.q, q_head := s.q_head } = s) ∧
    qPop s = qPopElement 0 s ∧
    (0 < s.q.length → (qPop s).q_head = (s.q_head + 1) % s.cfg.queueCap)

/-- The queue is first in, first out (45_pdu_queue.md R306): whatever interleaving of enqueues and pops, the entries popped
and those left are the entries that were there and those accepted, in order. -/
def Obligations.QueueFifo : Prop :=
  ∀ (ops : List QueueOp) (s : State),
    let (popped, taken, t) := runQueue ops s
    popped ++ t.q = s.q ++ taken

/-- The ring realises the queue (45_pdu_queue.md R308): each ring operation does to the sequence the ring stands for what
the list operation does, and keeps the ring's bounds. -/
def Obligations.RingRealisesQueue : Prop :=
  ∀ (r : Ring), r.wf →
    (∀ e, r.count < r.cap → (r.enqueue e).wf ∧ (r.enqueue e).view = r.view ++ [e]) ∧
    (r.pop.wf ∧ r.pop.view = r.view.tail) ∧
    (∀ k, (r.popElement k).wf ∧ (r.popElement k).view = r.view.eraseIdx k)

/-! ## The host's operations

`host_result` is the value the operation returns, kept in a field of that name (entry 14). -/

/-- SEND (47_external_interfaces.md R351): the destination, the queue and the PDU's length decide; what is returned, what is
queued, and that nothing else changes. -/
def Obligations.SendSpec : Prop :=
  ∀ (s : State) (dest : BacnetAddress) (pdu : List Byte) (er : Bool),
    let m : Byte := if dest.mac_len = 0 then 255 else dest.mac.first
    (1 < dest.mac_len.toNat ∨ s.q.length = s.cfg.queueCap ∨ pdu.length = 0 ∨ s.cfg.maxPdu < pdu.length →
      runEvent (.send dest pdu er) s = .next { s with host_result := .bytesAccepted 0 }) ∧
    (dest.mac_len.toNat ≤ 1 → s.q.length ≠ s.cfg.queueCap → 1 ≤ pdu.length → pdu.length ≤ s.cfg.maxPdu →
      runEvent (.send dest pdu er) s = .next { s with
        q := s.q ++ [newEntry m pdu (er && decide (m ≠ 255))], host_result := .bytesAccepted pdu.length })

/-- RECEIVE (47_external_interfaces.md R352) and the host's receive(timeout_ms) (R353): a full slot is read and emptied in
one step; otherwise nothing changes but the answer, and a wait of at most 1000 ms begins, goes on or ends (the wait is
the model's field `receive_left`, entry 15). -/
def Obligations.ReceiveSpec : Prop :=
  ∀ (s : State),
    (∀ p, s.rp_ready = true → octetsOf s.rp_payload s.cfg.maxPdu s.rp_length.toNat = .ok p →
      runEvent .receive s = .next { s with
        rp_ready := false, host_result := .packet (some (s.rp_address, p)) } ∧
      (∀ timeout, runEvent (.receiveCall timeout) s = .next { s with
        rp_ready := false, receive_left := none, host_result := .packet (some (s.rp_address, p)) }) ∧
      (∀ left, s.receive_left = some left → runEvent .receiveRetry s = .next { s with
        rp_ready := false, receive_left := none, host_result := .packet (some (s.rp_address, p)) })) ∧
    (s.rp_ready = false →
      runEvent .receive s = .next { s with host_result := .packet none } ∧
      runEvent (.receiveCall 0) s = .next { s with receive_left := none, host_result := .packet none } ∧
      (∀ timeout, 1 ≤ timeout → runEvent (.receiveCall timeout) s = .next { s with
        receive_left := some (min timeout 1000), host_result := .waiting }) ∧
      (∀ left, s.receive_left = some (left + 1) → runEvent .receiveRetry s = .next s) ∧
      (s.receive_left = some 0 → runEvent .receiveRetry s = .next { s with
        receive_left := none, host_result := .packet none }))

/-- The configuration accessors (47_external_interfaces.md R354 to R359) and the address constructors (R360, R361): what is
accepted, what an accepted write does, and that a rejected one changes nothing in the block. -/
def Obligations.Accessors : Prop :=
  ∀ (s : State),
    (∀ a : Byte,
      let ok := a.toNat ≤ 254 ∧ (127 < a.toNat ∨ a.toNat ≤ s.max_master.toNat)
      (ok → a ≠ s.this_station → runEvent (.setMacAddress a) s = .next { s with
        this_station := a, master_state := .idle, host_result := .nothing }) ∧
      (¬ ok ∨ a = s.this_station →
        runEvent (.setMacAddress a) s = .next { s with host_result := .nothing })) ∧
    (∀ m : Byte,
      let ok := m.toNat ≤ 127 ∧ (127 < s.this_station.toNat ∨ s.this_station.toNat ≤ m.toNat)
      (ok → runEvent (.setMaxMaster m) s = .next { s with max_master := m, host_result := .nothing }) ∧
      (¬ ok → runEvent (.setMaxMaster m) s = .next { s with host_result := .nothing })) ∧
    (∀ n : Byte,
      (1 ≤ n.toNat →
        runEvent (.setMaxInfoFrames n) s = .next { s with max_info_frames := n, host_result := .nothing }) ∧
      (n = 0 → runEvent (.setMaxInfoFrames n) s = .next { s with host_result := .nothing })) ∧
    runEvent .macAddress s = .next { s with host_result := .octet s.this_station } ∧
    runEvent .maxMaster s = .next { s with host_result := .octet s.max_master } ∧
    runEvent .maxInfoFrames s = .next { s with host_result := .octet s.max_info_frames } ∧
    (∃ x, runEvent .fillBroadcastAddress s = .next { s with host_result := .address x } ∧
      x.mac_len = 0 ∧ x.net = 0xFFFF ∧ x.len = 0 ∧ x.mac.first = 0 ∧ x.adr.first = 0 ∧
      (∀ b, b ∈ x.mac.rest ++ x.adr.rest → b = 0)) ∧
    (∀ mac : Byte, ∃ x, runEvent (.fillAddress mac) s = .next { s with host_result := .address x } ∧
      x.mac_len = 1 ∧ x.net = 0 ∧ x.len = 0 ∧ x.mac.first = mac ∧ x.adr.first = 0 ∧
      (∀ b, b ∈ x.mac.rest ++ x.adr.rest → b = 0))

/-- The configuration is written through its accessors only (10_state.md R21, R29 to R31): any event that changes a
register of CONFIG is that register's accessor or RESET, and no event changes a parameter. -/
def Obligations.ConfigWriters : Prop :=
  ∀ (e : Event) (s t : State), runEvent e s = .next t →
    t.cfg = s.cfg ∧
    (t.this_station ≠ s.this_station → e = .setMacAddress t.this_station ∨ e = .reset) ∧
    (t.max_master ≠ s.max_master → e = .setMaxMaster t.max_master ∨ e = .reset) ∧
    (t.max_info_frames ≠ s.max_info_frames → e = .setMaxInfoFrames t.max_info_frames ∨ e = .reset)

/-- The Port Adapter's steps (47_external_interfaces.md R365, R366): an octet is appended to `rx_stream`, the head of
`tx_stream` is removed, nothing else changes; and RX takes no octet while it rests (R365). -/
def Obligations.PortSteps : Prop :=
  (∀ (s : State) (b : Byte), runEvent (.portRx b) s = .next { s with rx_stream := s.rx_stream ++ [b] }) ∧
  (∀ (s : State) (b : Byte) (rest : List Byte), s.tx_stream = b :: rest →
    runEvent .portTx s = .next { s with tx_stream := rest }) ∧
  (∀ s t : State, rxReady s = false → runEvent .rx s = .next t → t.rx_stream = s.rx_stream)
end

