-- ==== Sys2Proof/Laws/Encoding.lean ====
section
/-!
SUPPORT. The lemmas of the octet and field operations and of the decoder's choice of a frame row.
-/

namespace Sys2Proof

namespace Machine

/-! ## The two octets of a 16-bit value -/

theorem toNat_hiOctet (n : Half) : (hiOctet n).toNat = n.toNat / 256 := by
  have := n.isLt
  simp only [hiOctet, BitVec.extractLsb'_toNat, Nat.shiftRight_eq_div_pow]
  omega

theorem toNat_loOctet (n : Half) : (loOctet n).toNat = n.toNat % 256 := by
  simp [loOctet, BitVec.extractLsb'_toNat]

theorem toNat_joinOctets (hi lo : Byte) : (joinOctets hi lo).toNat = hi.toNat * 256 + lo.toNat := by
  have := lo.isLt
  rw [joinOctets, BitVec.toNat_append, Nat.shiftLeft_eq, ← Nat.shiftLeft_eq, ← Nat.shiftLeft_add_eq_or_of_lt this,
    Nat.shiftLeft_eq]

@[simp] theorem joinOctets_hi_lo (n : Half) : joinOctets (hiOctet n) (loOctet n) = n := by
  apply BitVec.eq_of_toNat_eq
  rw [toNat_joinOctets, toNat_hiOctet, toNat_loOctet]
  omega

@[simp] theorem hiOctet_joinOctets (hi lo : Byte) : hiOctet (joinOctets hi lo) = hi := by
  have := lo.isLt
  apply BitVec.eq_of_toNat_eq
  rw [toNat_hiOctet, toNat_joinOctets]
  omega

@[simp] theorem loOctet_joinOctets (hi lo : Byte) : loOctet (joinOctets hi lo) = lo := by
  have := lo.isLt
  apply BitVec.eq_of_toNat_eq
  rw [toNat_loOctet, toNat_joinOctets]
  omega

end Machine

/-! ## The frame row a frame-type octet selects (30_encoding.md R117) -/

/-- The octets of a frame header, and whatever follows, decode to the row of its type. -/
theorem decodeFrame_headerOctets (ft dst src : Byte) (len : Half) (hcrc : Byte) (rest : List Byte) :
    decodeFrame (Machine.headerOctets ft dst src len hcrc ++ rest) =
      .ok (decodeHeader ft dst src len hcrc, rest) := by
  simp [decodeFrame, Machine.headerOctets, Machine.coveredOctets]

section
variable (dst src : Byte) (len : Half) (hcrc : Byte)

theorem decodeHeader_reserved08 (t : BitVec 3) :
    decodeHeader (0b00001#5 ++ t) dst src len hcrc = .reserved08 t dst src len hcrc := by
  have h : ∀ t : BitVec 3, (0b00001#5 ++ t : Byte) ≠ 0 ∧ (0b00001#5 ++ t : Byte) ≠ 1 ∧ (0b00001#5 ++ t : Byte) ≠ 2 ∧
      (0b00001#5 ++ t : Byte) ≠ 3 ∧ (0b00001#5 ++ t : Byte) ≠ 4 ∧ (0b00001#5 ++ t : Byte) ≠ 5 ∧
      (0b00001#5 ++ t : Byte) ≠ 6 ∧ (0b00001#5 ++ t : Byte) ≠ 7 ∧ (0b00001#5 ++ t : Byte) &&& 0xF8 = 0x08 ∧
      (0b00001#5 ++ t : Byte).extractLsb' 0 3 = t := by decide
  obtain ⟨h0, h1, h2, h3, h4, h5, h6, h7, h8, ht⟩ := h t
  rw [decodeHeader, if_neg h0, if_neg h1, if_neg h2, if_neg h3, if_neg h4, if_neg h5, if_neg h6, if_neg h7, if_pos h8,
    ht]

theorem decodeHeader_reserved10 (t : BitVec 4) :
    decodeHeader (0b0001#4 ++ t) dst src len hcrc = .reserved10 t dst src len hcrc := by
  have h : ∀ t : BitVec 4, (0b0001#4 ++ t : Byte) ≠ 0 ∧ (0b0001#4 ++ t : Byte) ≠ 1 ∧ (0b0001#4 ++ t : Byte) ≠ 2 ∧
      (0b0001#4 ++ t : Byte) ≠ 3 ∧ (0b0001#4 ++ t : Byte) ≠ 4 ∧ (0b0001#4 ++ t : Byte) ≠ 5 ∧
      (0b0001#4 ++ t : Byte) ≠ 6 ∧ (0b0001#4 ++ t : Byte) ≠ 7 ∧ (0b0001#4 ++ t : Byte) &&& 0xF8 ≠ 0x08 ∧
      (0b0001#4 ++ t : Byte) &&& 0xF0 = 0x10 ∧ (0b0001#4 ++ t : Byte).extractLsb' 0 4 = t := by decide
  obtain ⟨h0, h1, h2, h3, h4, h5, h6, h7, h8, h9, ht⟩ := h t
  rw [decodeHeader, if_neg h0, if_neg h1, if_neg h2, if_neg h3, if_neg h4, if_neg h5, if_neg h6, if_neg h7, if_neg h8,
    if_pos h9, ht]

theorem decodeHeader_reserved20 (t : BitVec 5) :
    decodeHeader (0b001#3 ++ t) dst src len hcrc = .reserved20 t dst src len hcrc := by
  have h : ∀ t : BitVec 5, (0b001#3 ++ t : Byte) ≠ 0 ∧ (0b001#3 ++ t : Byte) ≠ 1 ∧ (0b001#3 ++ t : Byte) ≠ 2 ∧
      (0b001#3 ++ t : Byte) ≠ 3 ∧ (0b001#3 ++ t : Byte) ≠ 4 ∧ (0b001#3 ++ t : Byte) ≠ 5 ∧
      (0b001#3 ++ t : Byte) ≠ 6 ∧ (0b001#3 ++ t : Byte) ≠ 7 ∧ (0b001#3 ++ t : Byte) &&& 0xF8 ≠ 0x08 ∧
      (0b001#3 ++ t : Byte) &&& 0xF0 ≠ 0x10 ∧ (0b001#3 ++ t : Byte) &&& 0xE0 = 0x20 ∧
      (0b001#3 ++ t : Byte).extractLsb' 0 5 = t := by decide
  obtain ⟨h0, h1, h2, h3, h4, h5, h6, h7, h8, h9, h10, ht⟩ := h t
  rw [decodeHeader, if_neg h0, if_neg h1, if_neg h2, if_neg h3, if_neg h4, if_neg h5, if_neg h6, if_neg h7, if_neg h8,
    if_neg h9, if_pos h10, ht]

theorem decodeHeader_reserved40 (t : BitVec 6) :
    decodeHeader (0b01#2 ++ t) dst src len hcrc = .reserved40 t dst src len hcrc := by
  have h : ∀ t : BitVec 6, (0b01#2 ++ t : Byte) ≠ 0 ∧ (0b01#2 ++ t : Byte) ≠ 1 ∧ (0b01#2 ++ t : Byte) ≠ 2 ∧
      (0b01#2 ++ t : Byte) ≠ 3 ∧ (0b01#2 ++ t : Byte) ≠ 4 ∧ (0b01#2 ++ t : Byte) ≠ 5 ∧
      (0b01#2 ++ t : Byte) ≠ 6 ∧ (0b01#2 ++ t : Byte) ≠ 7 ∧ (0b01#2 ++ t : Byte) &&& 0xF8 ≠ 0x08 ∧
      (0b01#2 ++ t : Byte) &&& 0xF0 ≠ 0x10 ∧ (0b01#2 ++ t : Byte) &&& 0xE0 ≠ 0x20 ∧
      (0b01#2 ++ t : Byte) &&& 0xC0 = 0x40 ∧ (0b01#2 ++ t : Byte).extractLsb' 0 6 = t := by decide
  obtain ⟨h0, h1, h2, h3, h4, h5, h6, h7, h8, h9, h10, h11, ht⟩ := h t
  rw [decodeHeader, if_neg h0, if_neg h1, if_neg h2, if_neg h3, if_neg h4, if_neg h5, if_neg h6, if_neg h7, if_neg h8,
    if_neg h9, if_neg h10, if_pos h11, ht]

theorem decodeHeader_proprietary (t : BitVec 7) :
    decodeHeader (0b1#1 ++ t) dst src len hcrc = .proprietary t dst src len hcrc := by
  have h : ∀ t : BitVec 7, (0b1#1 ++ t : Byte) ≠ 0 ∧ (0b1#1 ++ t : Byte) ≠ 1 ∧ (0b1#1 ++ t : Byte) ≠ 2 ∧
      (0b1#1 ++ t : Byte) ≠ 3 ∧ (0b1#1 ++ t : Byte) ≠ 4 ∧ (0b1#1 ++ t : Byte) ≠ 5 ∧
      (0b1#1 ++ t : Byte) ≠ 6 ∧ (0b1#1 ++ t : Byte) ≠ 7 ∧ (0b1#1 ++ t : Byte) &&& 0xF8 ≠ 0x08 ∧
      (0b1#1 ++ t : Byte) &&& 0xF0 ≠ 0x10 ∧ (0b1#1 ++ t : Byte) &&& 0xE0 ≠ 0x20 ∧
      (0b1#1 ++ t : Byte) &&& 0xC0 ≠ 0x40 ∧ (0b1#1 ++ t : Byte).extractLsb' 0 7 = t := by decide
  obtain ⟨h0, h1, h2, h3, h4, h5, h6, h7, h8, h9, h10, h11, ht⟩ := h t
  rw [decodeHeader, if_neg h0, if_neg h1, if_neg h2, if_neg h3, if_neg h4, if_neg h5, if_neg h6, if_neg h7, if_neg h8,
    if_neg h9, if_neg h10, if_neg h11, ht]

end

/-- A property of the decoded row follows from the property of each of the thirteen rows at the octets that select it. -/
theorem decodeHeader_cases {motive : Byte → Instr → Prop} (dst src : Byte) (len : Half) (hcrc : Byte)
    (token : motive 0x00 (.token dst src len hcrc)) (pfm : motive 0x01 (.pfm dst src len hcrc))
    (rpfm : motive 0x02 (.rpfm dst src len hcrc)) (testRequest : motive 0x03 (.testRequest dst src len hcrc))
    (testResponse : motive 0x04 (.testResponse dst src len hcrc)) (der : motive 0x05 (.der dst src len hcrc))
    (dner : motive 0x06 (.dner dst src len hcrc)) (replyPostponed : motive 0x07 (.replyPostponed dst src len hcrc))
    (reserved08 : ∀ t, motive (0b00001#5 ++ t) (.reserved08 t dst src len hcrc))
    (reserved10 : ∀ t, motive (0b0001#4 ++ t) (.reserved10 t dst src len hcrc))
    (reserved20 : ∀ t, motive (0b001#3 ++ t) (.reserved20 t dst src len hcrc))
    (reserved40 : ∀ t, motive (0b01#2 ++ t) (.reserved40 t dst src len hcrc))
    (proprietary : ∀ t, motive (0b1#1 ++ t) (.proprietary t dst src len hcrc)) (ft : Byte) :
    motive ft (decodeHeader ft dst src len hcrc) := by
  have b08 : ∀ ft : Byte, ft &&& 0xF8 = 0x08 → (0b00001#5 ++ ft.extractLsb' 0 3 : Byte) = ft := by decide
  have b10 : ∀ ft : Byte, ft &&& 0xF0 = 0x10 → (0b0001#4 ++ ft.extractLsb' 0 4 : Byte) = ft := by decide
  have b20 : ∀ ft : Byte, ft &&& 0xE0 = 0x20 → (0b001#3 ++ ft.extractLsb' 0 5 : Byte) = ft := by decide
  have b40 : ∀ ft : Byte, ft &&& 0xC0 = 0x40 → (0b01#2 ++ ft.extractLsb' 0 6 : Byte) = ft := by decide
  have b80 : ∀ ft : Byte, 7 < ft.toNat → ft &&& 0xF8 ≠ 0x08 → ft &&& 0xF0 ≠ 0x10 → ft &&& 0xE0 ≠ 0x20 →
      ft &&& 0xC0 ≠ 0x40 → (0b1#1 ++ ft.extractLsb' 0 7 : Byte) = ft := by decide
  by_cases h0 : ft = 0
  · subst h0; exact token
  by_cases h1 : ft = 1
  · subst h1; exact pfm
  by_cases h2 : ft = 2
  · subst h2; exact rpfm
  by_cases h3 : ft = 3
  · subst h3; exact testRequest
  by_cases h4 : ft = 4
  · subst h4; exact testResponse
  by_cases h5 : ft = 5
  · subst h5; exact der
  by_cases h6 : ft = 6
  · subst h6; exact dner
  by_cases h7 : ft = 7
  · subst h7; exact replyPostponed
  by_cases h8 : ft &&& 0xF8 = 0x08
  · rw [← b08 ft h8, decodeHeader_reserved08]; exact reserved08 _
  by_cases h9 : ft &&& 0xF0 = 0x10
  · rw [← b10 ft h9, decodeHeader_reserved10]; exact reserved10 _
  by_cases h10 : ft &&& 0xE0 = 0x20
  · rw [← b20 ft h10, decodeHeader_reserved20]; exact reserved20 _
  by_cases h11 : ft &&& 0xC0 = 0x40
  · rw [← b40 ft h11, decodeHeader_reserved40]; exact reserved40 _
  have hlt : 7 < ft.toNat := by
    bv_omega
  rw [← b80 ft hlt h8 h9 h10 h11, decodeHeader_proprietary]
  exact proprietary _

end Sys2Proof
end

