-- ==== Sys2Proof/Laws/Memory.lean ====
section
/-!
SUPPORT. The laws of the octet arrays: what a read gives after a write, and that every operation keeps the canonical
form and the bounds.
-/

namespace Sys2Proof.Machine

/-! ## Reads after writes -/

/-- A read at the written index gives the octet written. -/
@[simp] theorem Memory.read_write_same (m : Memory) (a : Nat) (b : Byte) : (m.write a b).read a = some b := by
  induction m with
  | nil => simp [Memory.write, Memory.read]
  | cons x rest ih =>
    obtain ⟨k, v⟩ := x
    simp only [Memory.write]
    split
    · simp [Memory.read]
    · split
      · simp [Memory.read]
      · rename_i h₁ h₂
        simp [Memory.read, h₂, ih]

/-- A write leaves every other index alone. -/
theorem Memory.read_write_other (m : Memory) {a c : Nat} (b : Byte) (h : c ≠ a) :
    (m.write a b).read c = m.read c := by
  induction m with
  | nil => simp [Memory.write, Memory.read, h]
  | cons x rest ih =>
    obtain ⟨k, v⟩ := x
    simp only [Memory.write]
    split
    · simp [Memory.read, h]
    · split
      · rename_i h₁ h₂
        subst h₂
        simp [Memory.read, h]
      · simp only [Memory.read, ih]

/-- Both cases of a read after a write. -/
theorem Memory.read_write (m : Memory) (a c : Nat) (b : Byte) :
    (m.write a b).read c = if c = a then some b else m.read c := by
  split
  · rename_i h; subst h; simp
  · rename_i h; exact Memory.read_write_other m b h

/-- A copied octet is read back; every other index reads as before. -/
theorem Memory.read_writeSeq (m : Memory) (a c : Nat) (bs : List Byte) :
    (m.writeSeq a bs).read c = if a ≤ c ∧ c < a + bs.length then bs[c - a]? else m.read c := by
  induction bs generalizing m a with
  | nil => rw [if_neg (by simp only [List.length_nil]; omega)]; rfl
  | cons b bs ih =>
    simp only [Memory.writeSeq, ih, Memory.read_write, List.length_cons]
    by_cases hc : c = a
    · subst hc
      simp
    · by_cases hr : a + 1 ≤ c ∧ c < a + 1 + bs.length
      · have h' : a ≤ c ∧ c < a + (bs.length + 1) := by omega
        have hidx : c - a = (c - (a + 1)) + 1 := by omega
        rw [if_pos hr, if_pos h', hidx, List.getElem?_cons_succ]
      · have h' : ¬ (a ≤ c ∧ c < a + (bs.length + 1)) := by omega
        rw [if_neg hr, if_neg h', if_neg hc]

/-- Outside the copied octets nothing changes. -/
theorem Memory.read_writeSeq_outside (m : Memory) {a c : Nat} {bs : List Byte}
    (h : ¬ (a ≤ c ∧ c < a + bs.length)) : (m.writeSeq a bs).read c = m.read c := by
  rw [Memory.read_writeSeq, if_neg h]

/-! ## Sequences of reads -/

/-- `readSeq` succeeds exactly when it gives the octets that `read` gives, one by one. -/
theorem Memory.readSeq_eq_some (m : Memory) (a n : Nat) (bs : List Byte) :
    m.readSeq a n = some bs ↔ bs.length = n ∧ ∀ i, i < n → m.read (a + i) = bs[i]? := by
  induction n generalizing a bs with
  | zero =>
    simp only [Memory.readSeq, Option.some.injEq, Nat.not_lt_zero, false_imp_iff, implies_true, and_true]
    exact ⟨fun h => h ▸ rfl, fun h => (List.length_eq_zero_iff.mp h).symm⟩
  | succ n ih =>
    constructor
    · intro h
      simp only [Memory.readSeq] at h
      split at h
      · rename_i b bs' hb hbs'
        cases h
        obtain ⟨hlen, hread⟩ := (ih _ _).mp hbs'
        refine ⟨by simp [hlen], fun i hi => ?_⟩
        cases i with
        | zero => simpa using hb
        | succ j =>
          have := hread j (by omega)
          rw [List.getElem?_cons_succ, ← this, Nat.add_assoc, Nat.add_comm 1 j]
      · cases h
    · rintro ⟨hlen, hread⟩
      cases bs with
      | nil => simp at hlen
      | cons b bs =>
        have hb : m.read a = some b := by simpa using hread 0 (by omega)
        have hbs : m.readSeq (a + 1) n = some bs := by
          refine (ih _ _).mpr ⟨by simpa using hlen, fun i hi => ?_⟩
          have := hread (i + 1) (by omega)
          rw [List.getElem?_cons_succ] at this
          rw [← this, Nat.add_assoc, Nat.add_comm 1 i]
        simp [Memory.readSeq, hb, hbs]

/-- Octets that have all been written can be read. -/
theorem Memory.exists_readSeq_of_written {m : Memory} {n : Nat} (h : m.Written n) :
    ∃ bs, m.readSeq 0 n = some bs ∧ bs.length = n := by
  refine ⟨(List.range n).map (fun i => (m.read i).getD 0), ?_, by simp⟩
  rw [Memory.readSeq_eq_some]
  refine ⟨by simp, fun i hi => ?_⟩
  obtain ⟨b, hb⟩ := Option.isSome_iff_exists.mp (h i hi)
  simp [hb, hi]

/-- What `octetsOf` answers on octets that lie in the array and have been written. -/
theorem octetsOf_eq_ok {m : Memory} {cap n : Nat} {bs : List Byte} :
    octetsOf m cap n = .ok bs ↔ n ≤ cap ∧ m.readSeq 0 n = some bs := by
  unfold octetsOf
  split
  · rename_i h
    simp only [reduceCtorEq, false_iff, not_and]
    intro h'; omega
  · rename_i h
    split
    · rename_i bs' hbs'
      simp only [Except.ok.injEq, hbs', Option.some.injEq]
      exact ⟨fun h' => ⟨by omega, h'⟩, fun h' => h'.2⟩
    · rename_i hn
      simp [hn]

/-- The octets `octetsOf` gives are as many as asked for. -/
theorem length_of_octetsOf {m : Memory} {cap n : Nat} {bs : List Byte} (h : octetsOf m cap n = .ok bs) :
    bs.length = n :=
  ((Memory.readSeq_eq_some m 0 n bs).mp (octetsOf_eq_ok.mp h).2).1

/-- Written octets inside the array are read without a fault. -/
theorem exists_octetsOf {m : Memory} {cap n : Nat} (hn : n ≤ cap) (h : m.Written n) :
    ∃ bs, octetsOf m cap n = .ok bs ∧ bs.length = n := by
  obtain ⟨bs, hbs, hlen⟩ := Memory.exists_readSeq_of_written h
  exact ⟨bs, octetsOf_eq_ok.mpr ⟨hn, hbs⟩, hlen⟩

/-- What has just been copied is read back. -/
theorem Memory.readSeq_writeSeq (m : Memory) (bs : List Byte) : (m.writeSeq 0 bs).readSeq 0 bs.length = some bs := by
  rw [Memory.readSeq_eq_some]
  refine ⟨rfl, fun i hi => ?_⟩
  rw [Memory.read_writeSeq, if_pos ⟨by omega, by omega⟩]
  simp

/-! ## Written octets stay written -/

theorem Memory.written_mono {m : Memory} {n k : Nat} (h : m.Written n) (hk : k ≤ n) : m.Written k :=
  fun i hi => h i (by omega)

theorem Memory.written_zero (m : Memory) : m.Written 0 := fun i hi => absurd hi (by omega)

/-- Writing the next octet extends what has been written. -/
theorem Memory.written_write {m : Memory} {n : Nat} (h : m.Written n) (b : Byte) : (m.write n b).Written (n + 1) := by
  intro i hi
  rw [Memory.read_write]
  split
  · rfl
  · exact h i (by omega)

theorem Memory.written_writeSeq (m : Memory) (bs : List Byte) : (m.writeSeq 0 bs).Written bs.length := by
  intro i hi
  rw [Memory.read_writeSeq, if_pos ⟨by omega, by omega⟩]
  simp [hi]

/-! ## The canonical form and the bounds -/

/-- Every cell of `m.write a b` is the written one or a cell of `m`. -/
theorem Memory.mem_write {m : Memory} {a : Nat} {b : Byte} {x : Host.Cell} (h : x ∈ m.write a b) :
    x = (a, b) ∨ x ∈ m := by
  induction m with
  | nil => simpa [Memory.write] using h
  | cons y rest ih =>
    obtain ⟨k, v⟩ := y
    simp only [Memory.write] at h
    split at h
    · simpa [or_assoc] using h
    · split at h
      · simp only [List.mem_cons] at h ⊢
        tauto
      · simp only [List.mem_cons] at h ⊢
        rcases h with h | h
        · tauto
        · rcases ih h with h | h <;> tauto

/-- A write keeps the canonical form. -/
theorem Memory.wf_write {m : Memory} (h : m.wf = true) (a : Nat) (b : Byte) : (m.write a b).wf = true := by
  unfold Memory.wf at *
  rw [decide_eq_true_iff] at *
  induction m with
  | nil => simp [Memory.write]
  | cons y rest ih =>
    obtain ⟨k, v⟩ := y
    rw [List.pairwise_cons] at h
    simp only [Memory.write]
    split
    · rename_i hlt
      rw [List.pairwise_cons]
      refine ⟨fun z hz => ?_, List.pairwise_cons.mpr h⟩
      rcases List.mem_cons.mp hz with rfl | hz
      · exact hlt
      · exact Nat.lt_trans hlt (h.1 z hz)
    · split
      · rename_i h₁ h₂
        subst h₂
        exact List.pairwise_cons.mpr ⟨h.1, h.2⟩
      · rename_i h₁ h₂
        rw [List.pairwise_cons]
        refine ⟨fun z hz => ?_, ih h.2⟩
        rcases Memory.mem_write hz with rfl | hz
        · show k < a; omega
        · exact h.1 z hz

/-- A write inside the array keeps every listed index inside it. -/
theorem Memory.within_write {m : Memory} {cap : Nat} (h : m.within cap = true) {a : Nat} (ha : a < cap) (b : Byte) :
    (m.write a b).within cap = true := by
  unfold Memory.within at *
  rw [List.all_eq_true] at *
  intro x hx
  rcases Memory.mem_write hx with rfl | hx
  · simpa using ha
  · exact h x hx

/-- A write inside the array keeps it sound. -/
theorem Memory.sound_write {m : Memory} {cap : Nat} (h : m.Sound cap) {a : Nat} (ha : a < cap) (b : Byte) :
    (m.write a b).Sound cap :=
  ⟨Memory.wf_write h.wf a b, Memory.within_write h.within ha b⟩

/-- A copy inside the array keeps it sound. -/
theorem Memory.sound_writeSeq {m : Memory} {cap : Nat} (h : m.Sound cap) (a : Nat) (bs : List Byte)
    (ha : a + bs.length ≤ cap) : (m.writeSeq a bs).Sound cap := by
  induction bs generalizing m a with
  | nil => exact h
  | cons b bs ih =>
    simp only [List.length_cons] at ha
    exact ih (Memory.sound_write h (by omega) b) (a + 1) (by omega)

/-- An array nothing has been written to is sound. -/
theorem Memory.sound_nil (cap : Nat) : Memory.Sound [] cap := ⟨by decide, by simp [Memory.within]⟩

/-- The arrays of the state after reset are sound. -/
theorem reset_arrays_sound (c : Config) : ArrayInv (resetWith c) :=
  ⟨Memory.sound_nil _, Memory.sound_nil _, Memory.sound_nil _⟩

end Sys2Proof.Machine
end

