-- ==== Sys2Proof/Laws/State.lean ====
section
/-!
SUPPORT. One lemma per field per update of the state, so that a later proof never unfolds a record update.
-/

namespace Sys2Proof.Machine

variable (s : State)

/-! ## `silenceReset` -/

@[simp] theorem silenceReset_cfg : (silenceReset s).cfg = s.cfg := rfl
@[simp] theorem silenceReset_this_station : (silenceReset s).this_station = s.this_station := rfl
@[simp] theorem silenceReset_max_master : (silenceReset s).max_master = s.max_master := rfl
@[simp] theorem silenceReset_max_info_frames : (silenceReset s).max_info_frames = s.max_info_frames := rfl
@[simp] theorem silenceReset_silence_ms : (silenceReset s).silence_ms = 0 := rfl
@[simp] theorem silenceReset_rx_state : (silenceReset s).rx_state = s.rx_state := rfl
@[simp] theorem silenceReset_rx_index : (silenceReset s).rx_index = s.rx_index := rfl
@[simp] theorem silenceReset_rx_frame_type : (silenceReset s).rx_frame_type = s.rx_frame_type := rfl
@[simp] theorem silenceReset_rx_destination : (silenceReset s).rx_destination = s.rx_destination := rfl
@[simp] theorem silenceReset_rx_source : (silenceReset s).rx_source = s.rx_source := rfl
@[simp] theorem silenceReset_rx_data_length : (silenceReset s).rx_data_length = s.rx_data_length := rfl
@[simp] theorem silenceReset_rx_header_crc : (silenceReset s).rx_header_crc = s.rx_header_crc := rfl
@[simp] theorem silenceReset_rx_data_crc : (silenceReset s).rx_data_crc = s.rx_data_crc := rfl
@[simp] theorem silenceReset_input_buffer : (silenceReset s).input_buffer = s.input_buffer := rfl
@[simp] theorem silenceReset_valid_frame : (silenceReset s).valid_frame = s.valid_frame := rfl
@[simp] theorem silenceReset_valid_frame_not_for_us : (silenceReset s).valid_frame_not_for_us = s.valid_frame_not_for_us := rfl
@[simp] theorem silenceReset_invalid_frame : (silenceReset s).invalid_frame = s.invalid_frame := rfl
@[simp] theorem silenceReset_master_state : (silenceReset s).master_state = s.master_state := rfl
@[simp] theorem silenceReset_next_station : (silenceReset s).next_station = s.next_station := rfl
@[simp] theorem silenceReset_poll_station : (silenceReset s).poll_station = s.poll_station := rfl
@[simp] theorem silenceReset_frame_count : (silenceReset s).frame_count = s.frame_count := rfl
@[simp] theorem silenceReset_output_buffer : (silenceReset s).output_buffer = s.output_buffer := rfl
@[simp] theorem silenceReset_q : (silenceReset s).q = s.q := rfl
@[simp] theorem silenceReset_q_head : (silenceReset s).q_head = s.q_head := rfl
@[simp] theorem silenceReset_rp_ready : (silenceReset s).rp_ready = s.rp_ready := rfl
@[simp] theorem silenceReset_rp_address : (silenceReset s).rp_address = s.rp_address := rfl
@[simp] theorem silenceReset_rp_payload : (silenceReset s).rp_payload = s.rp_payload := rfl
@[simp] theorem silenceReset_rp_length : (silenceReset s).rp_length = s.rp_length := rfl
@[simp] theorem silenceReset_rx_stream : (silenceReset s).rx_stream = s.rx_stream := rfl
@[simp] theorem silenceReset_tx_stream : (silenceReset s).tx_stream = s.tx_stream := rfl
@[simp] theorem silenceReset_more_work : (silenceReset s).more_work = s.more_work := rfl
@[simp] theorem silenceReset_host_result : (silenceReset s).host_result = s.host_result := rfl
@[simp] theorem silenceReset_reply_request : (silenceReset s).reply_request = s.reply_request := rfl
@[simp] theorem silenceReset_agenda : (silenceReset s).agenda = s.agenda := rfl
@[simp] theorem silenceReset_turn : (silenceReset s).turn = s.turn := rfl
@[simp] theorem silenceReset_rx_wait : (silenceReset s).rx_wait = s.rx_wait := rfl
@[simp] theorem silenceReset_node_wait : (silenceReset s).node_wait = s.node_wait := rfl
@[simp] theorem silenceReset_reply_port : (silenceReset s).reply_port = s.reply_port := rfl
@[simp] theorem silenceReset_asked : (silenceReset s).asked = s.asked := rfl
@[simp] theorem silenceReset_receive_left : (silenceReset s).receive_left = s.receive_left := rfl

/-! ## `discardFrame` -/

@[simp] theorem discardFrame_cfg : (discardFrame s).cfg = s.cfg := rfl
@[simp] theorem discardFrame_this_station : (discardFrame s).this_station = s.this_station := rfl
@[simp] theorem discardFrame_max_master : (discardFrame s).max_master = s.max_master := rfl
@[simp] theorem discardFrame_max_info_frames : (discardFrame s).max_info_frames = s.max_info_frames := rfl
@[simp] theorem discardFrame_silence_ms : (discardFrame s).silence_ms = s.silence_ms := rfl
@[simp] theorem discardFrame_rx_state : (discardFrame s).rx_state = .idle := rfl
@[simp] theorem discardFrame_rx_index : (discardFrame s).rx_index = s.rx_index := rfl
@[simp] theorem discardFrame_rx_frame_type : (discardFrame s).rx_frame_type = s.rx_frame_type := rfl
@[simp] theorem discardFrame_rx_destination : (discardFrame s).rx_destination = s.rx_destination := rfl
@[simp] theorem discardFrame_rx_source : (discardFrame s).rx_source = s.rx_source := rfl
@[simp] theorem discardFrame_rx_data_length : (discardFrame s).rx_data_length = s.rx_data_length := rfl
@[simp] theorem discardFrame_rx_header_crc : (discardFrame s).rx_header_crc = s.rx_header_crc := rfl
@[simp] theorem discardFrame_rx_data_crc : (discardFrame s).rx_data_crc = s.rx_data_crc := rfl
@[simp] theorem discardFrame_input_buffer : (discardFrame s).input_buffer = s.input_buffer := rfl
@[simp] theorem discardFrame_valid_frame : (discardFrame s).valid_frame = s.valid_frame := rfl
@[simp] theorem discardFrame_valid_frame_not_for_us : (discardFrame s).valid_frame_not_for_us = s.valid_frame_not_for_us := rfl
@[simp] theorem discardFrame_invalid_frame : (discardFrame s).invalid_frame = true := rfl
@[simp] theorem discardFrame_master_state : (discardFrame s).master_state = s.master_state := rfl
@[simp] theorem discardFrame_next_station : (discardFrame s).next_station = s.next_station := rfl
@[simp] theorem discardFrame_poll_station : (discardFrame s).poll_station = s.poll_station := rfl
@[simp] theorem discardFrame_frame_count : (discardFrame s).frame_count = s.frame_count := rfl
@[simp] theorem discardFrame_output_buffer : (discardFrame s).output_buffer = s.output_buffer := rfl
@[simp] theorem discardFrame_q : (discardFrame s).q = s.q := rfl
@[simp] theorem discardFrame_q_head : (discardFrame s).q_head = s.q_head := rfl
@[simp] theorem discardFrame_rp_ready : (discardFrame s).rp_ready = s.rp_ready := rfl
@[simp] theorem discardFrame_rp_address : (discardFrame s).rp_address = s.rp_address := rfl
@[simp] theorem discardFrame_rp_payload : (discardFrame s).rp_payload = s.rp_payload := rfl
@[simp] theorem discardFrame_rp_length : (discardFrame s).rp_length = s.rp_length := rfl
@[simp] theorem discardFrame_rx_stream : (discardFrame s).rx_stream = s.rx_stream := rfl
@[simp] theorem discardFrame_tx_stream : (discardFrame s).tx_stream = s.tx_stream := rfl
@[simp] theorem discardFrame_more_work : (discardFrame s).more_work = s.more_work := rfl
@[simp] theorem discardFrame_host_result : (discardFrame s).host_result = s.host_result := rfl
@[simp] theorem discardFrame_reply_request : (discardFrame s).reply_request = s.reply_request := rfl
@[simp] theorem discardFrame_agenda : (discardFrame s).agenda = s.agenda := rfl
@[simp] theorem discardFrame_turn : (discardFrame s).turn = s.turn := rfl
@[simp] theorem discardFrame_rx_wait : (discardFrame s).rx_wait = s.rx_wait := rfl
@[simp] theorem discardFrame_node_wait : (discardFrame s).node_wait = s.node_wait := rfl
@[simp] theorem discardFrame_reply_port : (discardFrame s).reply_port = s.reply_port := rfl
@[simp] theorem discardFrame_asked : (discardFrame s).asked = s.asked := rfl
@[simp] theorem discardFrame_receive_left : (discardFrame s).receive_left = s.receive_left := rfl

/-! ## `clearValid` -/

@[simp] theorem clearValid_cfg : (clearValid s).cfg = s.cfg := rfl
@[simp] theorem clearValid_this_station : (clearValid s).this_station = s.this_station := rfl
@[simp] theorem clearValid_max_master : (clearValid s).max_master = s.max_master := rfl
@[simp] theorem clearValid_max_info_frames : (clearValid s).max_info_frames = s.max_info_frames := rfl
@[simp] theorem clearValid_silence_ms : (clearValid s).silence_ms = s.silence_ms := rfl
@[simp] theorem clearValid_rx_state : (clearValid s).rx_state = s.rx_state := rfl
@[simp] theorem clearValid_rx_index : (clearValid s).rx_index = s.rx_index := rfl
@[simp] theorem clearValid_rx_frame_type : (clearValid s).rx_frame_type = s.rx_frame_type := rfl
@[simp] theorem clearValid_rx_destination : (clearValid s).rx_destination = s.rx_destination := rfl
@[simp] theorem clearValid_rx_source : (clearValid s).rx_source = s.rx_source := rfl
@[simp] theorem clearValid_rx_data_length : (clearValid s).rx_data_length = s.rx_data_length := rfl
@[simp] theorem clearValid_rx_header_crc : (clearValid s).rx_header_crc = s.rx_header_crc := rfl
@[simp] theorem clearValid_rx_data_crc : (clearValid s).rx_data_crc = s.rx_data_crc := rfl
@[simp] theorem clearValid_input_buffer : (clearValid s).input_buffer = s.input_buffer := rfl
@[simp] theorem clearValid_valid_frame : (clearValid s).valid_frame = false := rfl
@[simp] theorem clearValid_valid_frame_not_for_us : (clearValid s).valid_frame_not_for_us = s.valid_frame_not_for_us := rfl
@[simp] theorem clearValid_invalid_frame : (clearValid s).invalid_frame = s.invalid_frame := rfl
@[simp] theorem clearValid_master_state : (clearValid s).master_state = s.master_state := rfl
@[simp] theorem clearValid_next_station : (clearValid s).next_station = s.next_station := rfl
@[simp] theorem clearValid_poll_station : (clearValid s).poll_station = s.poll_station := rfl
@[simp] theorem clearValid_frame_count : (clearValid s).frame_count = s.frame_count := rfl
@[simp] theorem clearValid_output_buffer : (clearValid s).output_buffer = s.output_buffer := rfl
@[simp] theorem clearValid_q : (clearValid s).q = s.q := rfl
@[simp] theorem clearValid_q_head : (clearValid s).q_head = s.q_head := rfl
@[simp] theorem clearValid_rp_ready : (clearValid s).rp_ready = s.rp_ready := rfl
@[simp] theorem clearValid_rp_address : (clearValid s).rp_address = s.rp_address := rfl
@[simp] theorem clearValid_rp_payload : (clearValid s).rp_payload = s.rp_payload := rfl
@[simp] theorem clearValid_rp_length : (clearValid s).rp_length = s.rp_length := rfl
@[simp] theorem clearValid_rx_stream : (clearValid s).rx_stream = s.rx_stream := rfl
@[simp] theorem clearValid_tx_stream : (clearValid s).tx_stream = s.tx_stream := rfl
@[simp] theorem clearValid_more_work : (clearValid s).more_work = s.more_work := rfl
@[simp] theorem clearValid_host_result : (clearValid s).host_result = s.host_result := rfl
@[simp] theorem clearValid_reply_request : (clearValid s).reply_request = s.reply_request := rfl
@[simp] theorem clearValid_agenda : (clearValid s).agenda = s.agenda := rfl
@[simp] theorem clearValid_turn : (clearValid s).turn = s.turn := rfl
@[simp] theorem clearValid_rx_wait : (clearValid s).rx_wait = s.rx_wait := rfl
@[simp] theorem clearValid_node_wait : (clearValid s).node_wait = s.node_wait := rfl
@[simp] theorem clearValid_reply_port : (clearValid s).reply_port = s.reply_port := rfl
@[simp] theorem clearValid_asked : (clearValid s).asked = s.asked := rfl
@[simp] theorem clearValid_receive_left : (clearValid s).receive_left = s.receive_left := rfl

/-! ## `clearNotForUs` -/

@[simp] theorem clearNotForUs_cfg : (clearNotForUs s).cfg = s.cfg := rfl
@[simp] theorem clearNotForUs_this_station : (clearNotForUs s).this_station = s.this_station := rfl
@[simp] theorem clearNotForUs_max_master : (clearNotForUs s).max_master = s.max_master := rfl
@[simp] theorem clearNotForUs_max_info_frames : (clearNotForUs s).max_info_frames = s.max_info_frames := rfl
@[simp] theorem clearNotForUs_silence_ms : (clearNotForUs s).silence_ms = s.silence_ms := rfl
@[simp] theorem clearNotForUs_rx_state : (clearNotForUs s).rx_state = s.rx_state := rfl
@[simp] theorem clearNotForUs_rx_index : (clearNotForUs s).rx_index = s.rx_index := rfl
@[simp] theorem clearNotForUs_rx_frame_type : (clearNotForUs s).rx_frame_type = s.rx_frame_type := rfl
@[simp] theorem clearNotForUs_rx_destination : (clearNotForUs s).rx_destination = s.rx_destination := rfl
@[simp] theorem clearNotForUs_rx_source : (clearNotForUs s).rx_source = s.rx_source := rfl
@[simp] theorem clearNotForUs_rx_data_length : (clearNotForUs s).rx_data_length = s.rx_data_length := rfl
@[simp] theorem clearNotForUs_rx_header_crc : (clearNotForUs s).rx_header_crc = s.rx_header_crc := rfl
@[simp] theorem clearNotForUs_rx_data_crc : (clearNotForUs s).rx_data_crc = s.rx_data_crc := rfl
@[simp] theorem clearNotForUs_input_buffer : (clearNotForUs s).input_buffer = s.input_buffer := rfl
@[simp] theorem clearNotForUs_valid_frame : (clearNotForUs s).valid_frame = s.valid_frame := rfl
@[simp] theorem clearNotForUs_valid_frame_not_for_us : (clearNotForUs s).valid_frame_not_for_us = false := rfl
@[simp] theorem clearNotForUs_invalid_frame : (clearNotForUs s).invalid_frame = s.invalid_frame := rfl
@[simp] theorem clearNotForUs_master_state : (clearNotForUs s).master_state = s.master_state := rfl
@[simp] theorem clearNotForUs_next_station : (clearNotForUs s).next_station = s.next_station := rfl
@[simp] theorem clearNotForUs_poll_station : (clearNotForUs s).poll_station = s.poll_station := rfl
@[simp] theorem clearNotForUs_frame_count : (clearNotForUs s).frame_count = s.frame_count := rfl
@[simp] theorem clearNotForUs_output_buffer : (clearNotForUs s).output_buffer = s.output_buffer := rfl
@[simp] theorem clearNotForUs_q : (clearNotForUs s).q = s.q := rfl
@[simp] theorem clearNotForUs_q_head : (clearNotForUs s).q_head = s.q_head := rfl
@[simp] theorem clearNotForUs_rp_ready : (clearNotForUs s).rp_ready = s.rp_ready := rfl
@[simp] theorem clearNotForUs_rp_address : (clearNotForUs s).rp_address = s.rp_address := rfl
@[simp] theorem clearNotForUs_rp_payload : (clearNotForUs s).rp_payload = s.rp_payload := rfl
@[simp] theorem clearNotForUs_rp_length : (clearNotForUs s).rp_length = s.rp_length := rfl
@[simp] theorem clearNotForUs_rx_stream : (clearNotForUs s).rx_stream = s.rx_stream := rfl
@[simp] theorem clearNotForUs_tx_stream : (clearNotForUs s).tx_stream = s.tx_stream := rfl
@[simp] theorem clearNotForUs_more_work : (clearNotForUs s).more_work = s.more_work := rfl
@[simp] theorem clearNotForUs_host_result : (clearNotForUs s).host_result = s.host_result := rfl
@[simp] theorem clearNotForUs_reply_request : (clearNotForUs s).reply_request = s.reply_request := rfl
@[simp] theorem clearNotForUs_agenda : (clearNotForUs s).agenda = s.agenda := rfl
@[simp] theorem clearNotForUs_turn : (clearNotForUs s).turn = s.turn := rfl
@[simp] theorem clearNotForUs_rx_wait : (clearNotForUs s).rx_wait = s.rx_wait := rfl
@[simp] theorem clearNotForUs_node_wait : (clearNotForUs s).node_wait = s.node_wait := rfl
@[simp] theorem clearNotForUs_reply_port : (clearNotForUs s).reply_port = s.reply_port := rfl
@[simp] theorem clearNotForUs_asked : (clearNotForUs s).asked = s.asked := rfl
@[simp] theorem clearNotForUs_receive_left : (clearNotForUs s).receive_left = s.receive_left := rfl

/-! ## `clearInvalid` -/

@[simp] theorem clearInvalid_cfg : (clearInvalid s).cfg = s.cfg := rfl
@[simp] theorem clearInvalid_this_station : (clearInvalid s).this_station = s.this_station := rfl
@[simp] theorem clearInvalid_max_master : (clearInvalid s).max_master = s.max_master := rfl
@[simp] theorem clearInvalid_max_info_frames : (clearInvalid s).max_info_frames = s.max_info_frames := rfl
@[simp] theorem clearInvalid_silence_ms : (clearInvalid s).silence_ms = s.silence_ms := rfl
@[simp] theorem clearInvalid_rx_state : (clearInvalid s).rx_state = s.rx_state := rfl
@[simp] theorem clearInvalid_rx_index : (clearInvalid s).rx_index = s.rx_index := rfl
@[simp] theorem clearInvalid_rx_frame_type : (clearInvalid s).rx_frame_type = s.rx_frame_type := rfl
@[simp] theorem clearInvalid_rx_destination : (clearInvalid s).rx_destination = s.rx_destination := rfl
@[simp] theorem clearInvalid_rx_source : (clearInvalid s).rx_source = s.rx_source := rfl
@[simp] theorem clearInvalid_rx_data_length : (clearInvalid s).rx_data_length = s.rx_data_length := rfl
@[simp] theorem clearInvalid_rx_header_crc : (clearInvalid s).rx_header_crc = s.rx_header_crc := rfl
@[simp] theorem clearInvalid_rx_data_crc : (clearInvalid s).rx_data_crc = s.rx_data_crc := rfl
@[simp] theorem clearInvalid_input_buffer : (clearInvalid s).input_buffer = s.input_buffer := rfl
@[simp] theorem clearInvalid_valid_frame : (clearInvalid s).valid_frame = s.valid_frame := rfl
@[simp] theorem clearInvalid_valid_frame_not_for_us : (clearInvalid s).valid_frame_not_for_us = s.valid_frame_not_for_us := rfl
@[simp] theorem clearInvalid_invalid_frame : (clearInvalid s).invalid_frame = false := rfl
@[simp] theorem clearInvalid_master_state : (clearInvalid s).master_state = s.master_state := rfl
@[simp] theorem clearInvalid_next_station : (clearInvalid s).next_station = s.next_station := rfl
@[simp] theorem clearInvalid_poll_station : (clearInvalid s).poll_station = s.poll_station := rfl
@[simp] theorem clearInvalid_frame_count : (clearInvalid s).frame_count = s.frame_count := rfl
@[simp] theorem clearInvalid_output_buffer : (clearInvalid s).output_buffer = s.output_buffer := rfl
@[simp] theorem clearInvalid_q : (clearInvalid s).q = s.q := rfl
@[simp] theorem clearInvalid_q_head : (clearInvalid s).q_head = s.q_head := rfl
@[simp] theorem clearInvalid_rp_ready : (clearInvalid s).rp_ready = s.rp_ready := rfl
@[simp] theorem clearInvalid_rp_address : (clearInvalid s).rp_address = s.rp_address := rfl
@[simp] theorem clearInvalid_rp_payload : (clearInvalid s).rp_payload = s.rp_payload := rfl
@[simp] theorem clearInvalid_rp_length : (clearInvalid s).rp_length = s.rp_length := rfl
@[simp] theorem clearInvalid_rx_stream : (clearInvalid s).rx_stream = s.rx_stream := rfl
@[simp] theorem clearInvalid_tx_stream : (clearInvalid s).tx_stream = s.tx_stream := rfl
@[simp] theorem clearInvalid_more_work : (clearInvalid s).more_work = s.more_work := rfl
@[simp] theorem clearInvalid_host_result : (clearInvalid s).host_result = s.host_result := rfl
@[simp] theorem clearInvalid_reply_request : (clearInvalid s).reply_request = s.reply_request := rfl
@[simp] theorem clearInvalid_agenda : (clearInvalid s).agenda = s.agenda := rfl
@[simp] theorem clearInvalid_turn : (clearInvalid s).turn = s.turn := rfl
@[simp] theorem clearInvalid_rx_wait : (clearInvalid s).rx_wait = s.rx_wait := rfl
@[simp] theorem clearInvalid_node_wait : (clearInvalid s).node_wait = s.node_wait := rfl
@[simp] theorem clearInvalid_reply_port : (clearInvalid s).reply_port = s.reply_port := rfl
@[simp] theorem clearInvalid_asked : (clearInvalid s).asked = s.asked := rfl
@[simp] theorem clearInvalid_receive_left : (clearInvalid s).receive_left = s.receive_left := rfl

/-! ## `qPopElement` -/

@[simp] theorem qPopElement_cfg (k : Nat) : (qPopElement k s).cfg = s.cfg := rfl
@[simp] theorem qPopElement_this_station (k : Nat) : (qPopElement k s).this_station = s.this_station := rfl
@[simp] theorem qPopElement_max_master (k : Nat) : (qPopElement k s).max_master = s.max_master := rfl
@[simp] theorem qPopElement_max_info_frames (k : Nat) : (qPopElement k s).max_info_frames = s.max_info_frames := rfl
@[simp] theorem qPopElement_silence_ms (k : Nat) : (qPopElement k s).silence_ms = s.silence_ms := rfl
@[simp] theorem qPopElement_rx_state (k : Nat) : (qPopElement k s).rx_state = s.rx_state := rfl
@[simp] theorem qPopElement_rx_index (k : Nat) : (qPopElement k s).rx_index = s.rx_index := rfl
@[simp] theorem qPopElement_rx_frame_type (k : Nat) : (qPopElement k s).rx_frame_type = s.rx_frame_type := rfl
@[simp] theorem qPopElement_rx_destination (k : Nat) : (qPopElement k s).rx_destination = s.rx_destination := rfl
@[simp] theorem qPopElement_rx_source (k : Nat) : (qPopElement k s).rx_source = s.rx_source := rfl
@[simp] theorem qPopElement_rx_data_length (k : Nat) : (qPopElement k s).rx_data_length = s.rx_data_length := rfl
@[simp] theorem qPopElement_rx_header_crc (k : Nat) : (qPopElement k s).rx_header_crc = s.rx_header_crc := rfl
@[simp] theorem qPopElement_rx_data_crc (k : Nat) : (qPopElement k s).rx_data_crc = s.rx_data_crc := rfl
@[simp] theorem qPopElement_input_buffer (k : Nat) : (qPopElement k s).input_buffer = s.input_buffer := rfl
@[simp] theorem qPopElement_valid_frame (k : Nat) : (qPopElement k s).valid_frame = s.valid_frame := rfl
@[simp] theorem qPopElement_valid_frame_not_for_us (k : Nat) : (qPopElement k s).valid_frame_not_for_us = s.valid_frame_not_for_us := rfl
@[simp] theorem qPopElement_invalid_frame (k : Nat) : (qPopElement k s).invalid_frame = s.invalid_frame := rfl
@[simp] theorem qPopElement_master_state (k : Nat) : (qPopElement k s).master_state = s.master_state := rfl
@[simp] theorem qPopElement_next_station (k : Nat) : (qPopElement k s).next_station = s.next_station := rfl
@[simp] theorem qPopElement_poll_station (k : Nat) : (qPopElement k s).poll_station = s.poll_station := rfl
@[simp] theorem qPopElement_frame_count (k : Nat) : (qPopElement k s).frame_count = s.frame_count := rfl
@[simp] theorem qPopElement_output_buffer (k : Nat) : (qPopElement k s).output_buffer = s.output_buffer := rfl
@[simp] theorem qPopElement_q (k : Nat) : (qPopElement k s).q = s.q.eraseIdx k := rfl
@[simp] theorem qPopElement_q_head (k : Nat) : (qPopElement k s).q_head = nextHead k s := rfl
@[simp] theorem qPopElement_rp_ready (k : Nat) : (qPopElement k s).rp_ready = s.rp_ready := rfl
@[simp] theorem qPopElement_rp_address (k : Nat) : (qPopElement k s).rp_address = s.rp_address := rfl
@[simp] theorem qPopElement_rp_payload (k : Nat) : (qPopElement k s).rp_payload = s.rp_payload := rfl
@[simp] theorem qPopElement_rp_length (k : Nat) : (qPopElement k s).rp_length = s.rp_length := rfl
@[simp] theorem qPopElement_rx_stream (k : Nat) : (qPopElement k s).rx_stream = s.rx_stream := rfl
@[simp] theorem qPopElement_tx_stream (k : Nat) : (qPopElement k s).tx_stream = s.tx_stream := rfl
@[simp] theorem qPopElement_more_work (k : Nat) : (qPopElement k s).more_work = s.more_work := rfl
@[simp] theorem qPopElement_host_result (k : Nat) : (qPopElement k s).host_result = s.host_result := rfl
@[simp] theorem qPopElement_reply_request (k : Nat) : (qPopElement k s).reply_request = s.reply_request := rfl
@[simp] theorem qPopElement_agenda (k : Nat) : (qPopElement k s).agenda = s.agenda := rfl
@[simp] theorem qPopElement_turn (k : Nat) : (qPopElement k s).turn = s.turn := rfl
@[simp] theorem qPopElement_rx_wait (k : Nat) : (qPopElement k s).rx_wait = s.rx_wait := rfl
@[simp] theorem qPopElement_node_wait (k : Nat) : (qPopElement k s).node_wait = s.node_wait := rfl
@[simp] theorem qPopElement_reply_port (k : Nat) : (qPopElement k s).reply_port = s.reply_port := rfl
@[simp] theorem qPopElement_asked (k : Nat) : (qPopElement k s).asked = s.asked := rfl
@[simp] theorem qPopElement_receive_left (k : Nat) : (qPopElement k s).receive_left = s.receive_left := rfl

/-! ## `tick` -/

@[simp] theorem tick_cfg : (tick s).cfg = s.cfg := rfl
@[simp] theorem tick_this_station : (tick s).this_station = s.this_station := rfl
@[simp] theorem tick_max_master : (tick s).max_master = s.max_master := rfl
@[simp] theorem tick_max_info_frames : (tick s).max_info_frames = s.max_info_frames := rfl
@[simp] theorem tick_silence_ms : (tick s).silence_ms = silenceNext s := rfl
@[simp] theorem tick_rx_state : (tick s).rx_state = s.rx_state := rfl
@[simp] theorem tick_rx_index : (tick s).rx_index = s.rx_index := rfl
@[simp] theorem tick_rx_frame_type : (tick s).rx_frame_type = s.rx_frame_type := rfl
@[simp] theorem tick_rx_destination : (tick s).rx_destination = s.rx_destination := rfl
@[simp] theorem tick_rx_source : (tick s).rx_source = s.rx_source := rfl
@[simp] theorem tick_rx_data_length : (tick s).rx_data_length = s.rx_data_length := rfl
@[simp] theorem tick_rx_header_crc : (tick s).rx_header_crc = s.rx_header_crc := rfl
@[simp] theorem tick_rx_data_crc : (tick s).rx_data_crc = s.rx_data_crc := rfl
@[simp] theorem tick_input_buffer : (tick s).input_buffer = s.input_buffer := rfl
@[simp] theorem tick_valid_frame : (tick s).valid_frame = s.valid_frame := rfl
@[simp] theorem tick_valid_frame_not_for_us : (tick s).valid_frame_not_for_us = s.valid_frame_not_for_us := rfl
@[simp] theorem tick_invalid_frame : (tick s).invalid_frame = s.invalid_frame := rfl
@[simp] theorem tick_master_state : (tick s).master_state = s.master_state := rfl
@[simp] theorem tick_next_station : (tick s).next_station = s.next_station := rfl
@[simp] theorem tick_poll_station : (tick s).poll_station = s.poll_station := rfl
@[simp] theorem tick_frame_count : (tick s).frame_count = s.frame_count := rfl
@[simp] theorem tick_output_buffer : (tick s).output_buffer = s.output_buffer := rfl
@[simp] theorem tick_q : (tick s).q = s.q := rfl
@[simp] theorem tick_q_head : (tick s).q_head = s.q_head := rfl
@[simp] theorem tick_rp_ready : (tick s).rp_ready = s.rp_ready := rfl
@[simp] theorem tick_rp_address : (tick s).rp_address = s.rp_address := rfl
@[simp] theorem tick_rp_payload : (tick s).rp_payload = s.rp_payload := rfl
@[simp] theorem tick_rp_length : (tick s).rp_length = s.rp_length := rfl
@[simp] theorem tick_rx_stream : (tick s).rx_stream = s.rx_stream := rfl
@[simp] theorem tick_tx_stream : (tick s).tx_stream = s.tx_stream := rfl
@[simp] theorem tick_more_work : (tick s).more_work = s.more_work := rfl
@[simp] theorem tick_host_result : (tick s).host_result = s.host_result := rfl
@[simp] theorem tick_reply_request : (tick s).reply_request = s.reply_request := rfl
@[simp] theorem tick_agenda : (tick s).agenda = s.agenda := rfl
@[simp] theorem tick_turn : (tick s).turn = s.turn := rfl
@[simp] theorem tick_rx_wait : (tick s).rx_wait = s.rx_wait := rfl
@[simp] theorem tick_node_wait : (tick s).node_wait = s.node_wait := rfl
@[simp] theorem tick_reply_port : (tick s).reply_port = s.reply_port := rfl
@[simp] theorem tick_asked : (tick s).asked = s.asked := rfl
@[simp] theorem tick_receive_left : (tick s).receive_left = s.receive_left.map (· - 1) := rfl

/-! ## `transmit`: every field but `output_buffer`, `tx_stream` and `silence_ms` -/

section
variable (ft dst src : Byte) (data : List Byte)

@[simp] theorem transmit_cfg : (transmit ft dst src data s).cfg = s.cfg := by
  unfold transmit; dsimp only; split <;> rfl
@[simp] theorem transmit_this_station : (transmit ft dst src data s).this_station = s.this_station := by
  unfold transmit; dsimp only; split <;> rfl
@[simp] theorem transmit_max_master : (transmit ft dst src data s).max_master = s.max_master := by
  unfold transmit; dsimp only; split <;> rfl
@[simp] theorem transmit_max_info_frames : (transmit ft dst src data s).max_info_frames = s.max_info_frames := by
  unfold transmit; dsimp only; split <;> rfl
@[simp] theorem transmit_rx_state : (transmit ft dst src data s).rx_state = s.rx_state := by
  unfold transmit; dsimp only; split <;> rfl
@[simp] theorem transmit_rx_index : (transmit ft dst src data s).rx_index = s.rx_index := by
  unfold transmit; dsimp only; split <;> rfl
@[simp] theorem transmit_rx_frame_type : (transmit ft dst src data s).rx_frame_type = s.rx_frame_type := by
  unfold transmit; dsimp only; split <;> rfl
@[simp] theorem transmit_rx_destination : (transmit ft dst src data s).rx_destination = s.rx_destination := by
  unfold transmit; dsimp only; split <;> rfl
@[simp] theorem transmit_rx_source : (transmit ft dst src data s).rx_source = s.rx_source := by
  unfold transmit; dsimp only; split <;> rfl
@[simp] theorem transmit_rx_data_length : (transmit ft dst src data s).rx_data_length = s.rx_data_length := by
  unfold transmit; dsimp only; split <;> rfl
@[simp] theorem transmit_rx_header_crc : (transmit ft dst src data s).rx_header_crc = s.rx_header_crc := by
  unfold transmit; dsimp only; split <;> rfl
@[simp] theorem transmit_rx_data_crc : (transmit ft dst src data s).rx_data_crc = s.rx_data_crc := by
  unfold transmit; dsimp only; split <;> rfl
@[simp] theorem transmit_input_buffer : (transmit ft dst src data s).input_buffer = s.input_buffer := by
  unfold transmit; dsimp only; split <;> rfl
@[simp] theorem transmit_valid_frame : (transmit ft dst src data s).valid_frame = s.valid_frame := by
  unfold transmit; dsimp only; split <;> rfl
@[simp] theorem transmit_valid_frame_not_for_us : (transmit ft dst src data s).valid_frame_not_for_us = s.valid_frame_not_for_us := by
  unfold transmit; dsimp only; split <;> rfl
@[simp] theorem transmit_invalid_frame : (transmit ft dst src data s).invalid_frame = s.invalid_frame := by
  unfold transmit; dsimp only; split <;> rfl
@[simp] theorem transmit_master_state : (transmit ft dst src data s).master_state = s.master_state := by
  unfold transmit; dsimp only; split <;> rfl
@[simp] theorem transmit_next_station : (transmit ft dst src data s).next_station = s.next_station := by
  unfold transmit; dsimp only; split <;> rfl
@[simp] theorem transmit_poll_station : (transmit ft dst src data s).poll_station = s.poll_station := by
  unfold transmit; dsimp only; split <;> rfl
@[simp] theorem transmit_frame_count : (transmit ft dst src data s).frame_count = s.frame_count := by
  unfold transmit; dsimp only; split <;> rfl
@[simp] theorem transmit_q : (transmit ft dst src data s).q = s.q := by
  unfold transmit; dsimp only; split <;> rfl
@[simp] theorem transmit_q_head : (transmit ft dst src data s).q_head = s.q_head := by
  unfold transmit; dsimp only; split <;> rfl
@[simp] theorem transmit_rp_ready : (transmit ft dst src data s).rp_ready = s.rp_ready := by
  unfold transmit; dsimp only; split <;> rfl
@[simp] theorem transmit_rp_address : (transmit ft dst src data s).rp_address = s.rp_address := by
  unfold transmit; dsimp only; split <;> rfl
@[simp] theorem transmit_rp_payload : (transmit ft dst src data s).rp_payload = s.rp_payload := by
  unfold transmit; dsimp only; split <;> rfl
@[simp] theorem transmit_rp_length : (transmit ft dst src data s).rp_length = s.rp_length := by
  unfold transmit; dsimp only; split <;> rfl
@[simp] theorem transmit_rx_stream : (transmit ft dst src data s).rx_stream = s.rx_stream := by
  unfold transmit; dsimp only; split <;> rfl
@[simp] theorem transmit_more_work : (transmit ft dst src data s).more_work = s.more_work := by
  unfold transmit; dsimp only; split <;> rfl
@[simp] theorem transmit_host_result : (transmit ft dst src data s).host_result = s.host_result := by
  unfold transmit; dsimp only; split <;> rfl
@[simp] theorem transmit_reply_request : (transmit ft dst src data s).reply_request = s.reply_request := by
  unfold transmit; dsimp only; split <;> rfl
@[simp] theorem transmit_agenda : (transmit ft dst src data s).agenda = s.agenda := by
  unfold transmit; dsimp only; split <;> rfl
@[simp] theorem transmit_turn : (transmit ft dst src data s).turn = s.turn := by
  unfold transmit; dsimp only; split <;> rfl
@[simp] theorem transmit_rx_wait : (transmit ft dst src data s).rx_wait = s.rx_wait := by
  unfold transmit; dsimp only; split <;> rfl
@[simp] theorem transmit_node_wait : (transmit ft dst src data s).node_wait = s.node_wait := by
  unfold transmit; dsimp only; split <;> rfl
@[simp] theorem transmit_reply_port : (transmit ft dst src data s).reply_port = s.reply_port := by
  unfold transmit; dsimp only; split <;> rfl
@[simp] theorem transmit_asked : (transmit ft dst src data s).asked = s.asked := by
  unfold transmit; dsimp only; split <;> rfl
@[simp] theorem transmit_receive_left : (transmit ft dst src data s).receive_left = s.receive_left := by
  unfold transmit; dsimp only; split <;> rfl

end

/-! ## The fields of an update that many rules share -/

@[simp] theorem isMaster_silenceReset : isMaster (silenceReset s) = isMaster s := rfl
@[simp] theorem isMaster_clearValid : isMaster (clearValid s) = isMaster s := rfl
@[simp] theorem isMaster_clearNotForUs : isMaster (clearNotForUs s) = isMaster s := rfl
@[simp] theorem isMaster_clearInvalid : isMaster (clearInvalid s) = isMaster s := rfl
@[simp] theorem isMaster_discardFrame : isMaster (discardFrame s) = isMaster s := rfl
@[simp] theorem nextAddr_silenceReset (a : Byte) : nextAddr (silenceReset s) a = nextAddr s a := rfl
@[simp] theorem nextAddr_clearInvalid (a : Byte) : nextAddr (clearInvalid s) a = nextAddr s a := rfl
@[simp] theorem silenceRead_eq : silenceRead s = s.silence_ms := rfl
@[simp] theorem qCount_eq : qCount s = s.q.length := rfl

end Sys2Proof.Machine
end

