-- ==== Sys2Proof/Laws/Ops.lean ====
section
/-!
SUPPORT. One lemma per shared operation that says once everything it can do; later proofs cite it instead of unfolding
the operation.
-/

namespace Sys2Proof.Machine

/-! ## Sequencing -/

/-- A sequence answers next exactly when both halves do. -/
theorem andThen_eq_next {r : Result} {k : State → Result} {t : State} :
    andThen r k = .next t ↔ ∃ u, r = .next u ∧ k u = .next t := by
  cases r <;> simp [andThen]

@[simp] theorem andThen_next (s : State) (k : State → Result) : andThen (.next s) k = k s := rfl

/-- An operation on octets answers next exactly when the octets can be read and what follows answers next. -/
theorem withOctets_eq_next {m : Memory} {cap n : Nat} {k : List Byte → Result} {t : State} :
    withOctets m cap n k = .next t ↔ ∃ bs, octetsOf m cap n = .ok bs ∧ k bs = .next t := by
  unfold withOctets
  cases octetsOf m cap n <;> simp

/-- With the octets known, an operation on them is what follows. -/
theorem withInput_of_inputIs {len : Half} {s : State} {data : List Byte} (h : InputIs s len data)
    (k : List Byte → Result) : withInput len s k = k data := by
  unfold withInput withOctets
  rw [h]

/-- With the PDU of an entry known, an operation on it is what follows. -/
theorem withPayload_of_payloadIs {e : Entry} {s : State} {d : List Byte} (h : PayloadIs s.cfg e d)
    (k : List Byte → Result) : withPayload e s k = k d := by
  unfold withPayload withOctets
  rw [h]

/-! ## Frames and their transmission -/

/-- A constructed frame has the length of 30_encoding.md R116, or is empty where it would not fit. -/
theorem length_constructFrame (ft dst src : Byte) (data : List Byte) (cap : Nat) :
    (constructFrame ft dst src data cap).length =
      if frameLength data.length > cap then 0 else frameLength data.length := by
  unfold constructFrame
  by_cases hc : frameLength data.length > cap
  · simp [hc]
  · simp only [hc, if_false]
    unfold frameLength headerOctets coveredOctets
    by_cases hd : 0 < data.length
    · simp [hd]; omega
    · have : data = [] := List.length_eq_zero_iff.mp (by omega)
      simp [this]

/-- A frame `TRANSMIT` builds fits `output_buffer`. -/
theorem length_transmitFrame_le (ft dst src : Byte) (data : List Byte) (s : State) :
    (transmitFrame ft dst src data s).length ≤ s.cfg.outCap := by
  unfold transmitFrame
  rw [length_constructFrame]
  split <;> omega

/-- A frame with at most `MAX_PDU` data octets is never refused (40_frame_codec.md R155). -/
theorem transmitFrame_pos {data : List Byte} {s : State} (h : data.length ≤ s.cfg.maxPdu) (ft dst src : Byte) :
    0 < (transmitFrame ft dst src data s).length := by
  unfold transmitFrame
  rw [length_constructFrame]
  unfold frameLength Config.outCap
  split <;> (split at * <;> omega)

/-- What `TRANSMIT` appends to the octets to send. -/
@[simp] theorem transmit_tx_stream (ft dst src : Byte) (data : List Byte) (s : State) :
    (transmit ft dst src data s).tx_stream = s.tx_stream ++ transmitFrame ft dst src data s := by
  unfold transmit
  dsimp only
  split
  · rfl
  · rename_i h
    have : transmitFrame ft dst src data s = [] := List.length_eq_zero_iff.mp (by omega)
    simp [this]

/-- What `TRANSMIT` writes to `output_buffer`. -/
@[simp] theorem transmit_output_buffer (ft dst src : Byte) (data : List Byte) (s : State) :
    (transmit ft dst src data s).output_buffer = s.output_buffer.writeSeq 0 (transmitFrame ft dst src data s) := by
  unfold transmit
  dsimp only
  split <;> rfl

/-- `TRANSMIT` resets the silence counter when it sends something. -/
theorem transmit_silence_ms (ft dst src : Byte) (data : List Byte) (s : State) :
    (transmit ft dst src data s).silence_ms =
      if 0 < (transmitFrame ft dst src data s).length then 0 else s.silence_ms := by
  unfold transmit
  dsimp only
  split <;> simp_all [silenceReset]

/-- `TRANSMIT` as one update of the state. -/
theorem transmit_eq (ft dst src : Byte) (data : List Byte) (s : State) :
    transmit ft dst src data s =
      { s with
        output_buffer := s.output_buffer.writeSeq 0 (transmitFrame ft dst src data s)
        tx_stream := s.tx_stream ++ transmitFrame ft dst src data s
        silence_ms := if 0 < (transmitFrame ft dst src data s).length then 0 else s.silence_ms } := by
  unfold transmit
  dsimp only
  split
  · rfl
  · rename_i h
    have : transmitFrame ft dst src data s = [] := List.length_eq_zero_iff.mp (by omega)
    simp [this]

/-! ## The handoff -/

/-- `CLASSIFY` raises exactly one of the two flags and changes nothing else. -/
theorem classify_cases (s : State) :
    (s.rx_destination = s.this_station ∨ s.rx_destination = Config.broadcastMac) ∧
        classify s = { s with valid_frame := true } ∨
      ¬ (s.rx_destination = s.this_station ∨ s.rx_destination = Config.broadcastMac) ∧
        classify s = { s with valid_frame_not_for_us := true } := by
  unfold classify forUs bcast
  split <;> simp_all

/-- Which rule NODE takes by the flags. -/
theorem byFlag_cases (v n i q : State → Result) (s : State) :
    s.valid_frame = true ∧ byFlag v n i q s = v s ∨
    s.valid_frame = false ∧ s.valid_frame_not_for_us = true ∧ byFlag v n i q s = n s ∨
    s.valid_frame = false ∧ s.valid_frame_not_for_us = false ∧ s.invalid_frame = true ∧ byFlag v n i q s = i s ∨
    NoFlag s ∧ byFlag v n i q s = q s := by
  unfold byFlag NoFlag
  cases s.valid_frame <;> cases s.valid_frame_not_for_us <;> cases s.invalid_frame <;> simp

theorem byFlag_valid {s : State} (h : s.valid_frame = true) (v n i q : State → Result) : byFlag v n i q s = v s := by
  simp [byFlag, h]

theorem byFlag_notForUs {s : State} (h₁ : s.valid_frame = false) (h₂ : s.valid_frame_not_for_us = true)
    (v n i q : State → Result) : byFlag v n i q s = n s := by simp [byFlag, h₁, h₂]

theorem byFlag_invalid {s : State} (h₁ : s.valid_frame = false) (h₂ : s.valid_frame_not_for_us = false)
    (h₃ : s.invalid_frame = true) (v n i q : State → Result) : byFlag v n i q s = i s := by simp [byFlag, h₁, h₂, h₃]

theorem byFlag_quiet {s : State} (h : NoFlag s) (v n i q : State → Result) : byFlag v n i q s = q s := by
  simp [byFlag, h.1, h.2.1, h.2.2]

/-! ## Delivery and answers -/

/-- `DELIVER` of readable data leaves the slot as `delivered` says. -/
theorem deliver_of_inputIs {len : Half} {s : State} {data : List Byte} (h : InputIs s len data) (src : Byte) :
    deliver src len s = .next (delivered src data s) := by
  have hlen : data.length = len.toNat := length_of_octetsOf h
  have hof : BitVec.ofNat 16 data.length = len := by rw [hlen]; simp
  unfold deliver deliverAccepts delivered
  rw [hof, hlen]
  by_cases hr : s.rp_ready = false <;> by_cases hn : 1 ≤ len.toNat <;>
    simp [hr, hn, withInput_of_inputIs h, fillAddress, macOctets]

/-- What `DELIVER` can answer with: the slot written, or nothing changed. -/
theorem deliver_eq_next {src : Byte} {len : Half} {s t : State} (h : deliver src len s = .next t) :
    (∃ data, InputIs s len data ∧ 1 ≤ data.length ∧ s.rp_ready = false ∧
      t = { s with
        rp_address := fillAddress s.cfg src
        rp_payload := s.rp_payload.writeSeq 0 data
        rp_length := len
        rp_ready := true }) ∨ t = s := by
  unfold deliver deliverAccepts at h
  split at h
  · rename_i hd
    obtain ⟨data, hdata, hk⟩ := withOctets_eq_next.mp h
    simp only [Bool.and_eq_true, Bool.not_eq_true', decide_eq_true_eq] at hd
    exact .inl ⟨data, hdata, by rw [length_of_octetsOf hdata]; exact hd.2, hd.1, by cases hk; rfl⟩
  · exact .inr (by cases h; rfl)

/-- What `ANSWER` can answer with: the upper layer was asked, and its reply, if it gave one, was sent. -/
theorem answer_eq_next {src : Byte} {len : Half} {s t : State} (h : answer src len s = .next t) :
    ∃ data, InputIs s len data ∧
      (((buildReply src data s).1 = none ∧ t = (buildReply src data s).2) ∨
        ∃ r, (buildReply src data s).1 = some r ∧ replyInContract s.cfg r = true ∧
          t = transmit ftDner src s.this_station r (buildReply src data s).2) := by
  obtain ⟨data, hdata, hk⟩ := withOctets_eq_next.mp h
  have hcfg : (buildReply src data s).2.cfg = s.cfg ∧ (buildReply src data s).2.this_station = s.this_station := by
    unfold buildReply
    split <;> exact ⟨rfl, rfl⟩
  refine ⟨data, hdata, ?_⟩
  rcases hb : buildReply src data s with ⟨_ | r, u⟩ <;> rw [hb] at hk hcfg
  · exact .inl ⟨rfl, by cases hk; rfl⟩
  · refine .inr ⟨r, rfl, ?_⟩
    dsimp only at hk hcfg
    rw [hcfg.1, hcfg.2] at hk
    split at hk
    · rename_i hc
      exact ⟨hc, by cases hk; rfl⟩
    · cases hk

/-- The two ways `BUILD_REPLY` is answered. -/
theorem buildReply_cases (src : Byte) (data : List Byte) (s : State) :
    (∃ r rest, s.reply_port = r :: rest ∧
      buildReply src data s = (r, { s with reply_port := rest, reply_request := some (src, data) })) ∨
    (s.reply_port = [] ∧
      buildReply src data s =
        (freeReply s.cfg s.asked src data, { s with asked := s.asked + 1, reply_request := some (src, data) })) := by
  unfold buildReply
  split
  · rename_i r rest h
    exact .inl ⟨r, rest, h, rfl⟩
  · rename_i h
    exact .inr ⟨h, rfl⟩

/-! ## The choice of the rule and of the event -/

theorem nodeReact_of_master (r : FrameReaction) {s : State} (h : isMaster s = true) :
    nodeReact r s = masterStep r s := by simp [nodeReact, h]

theorem nodeReact_of_slave (r : FrameReaction) {s : State} (h : isMaster s = false) :
    nodeReact r s = slaveStep r s := by simp [nodeReact, h]

/-! The eight states of a master (43_master_fsm.md R232). -/

section
variable (r : FrameReaction) {s : State}

theorem masterStep_idle (h : s.master_state = .idle) :
    masterStep r s = byFlag r.idle dropNotForUs dropInvalid idleQuiet s := by unfold masterStep; rw [h]

theorem masterStep_useToken (h : s.master_state = .useToken) : masterStep r s = useToken s := by
  unfold masterStep; rw [h]

theorem masterStep_waitForReply (h : s.master_state = .waitForReply) :
    masterStep r s = byFlag r.waitForReply dropNotForUs dropInvalid waitQuiet s := by unfold masterStep; rw [h]

theorem masterStep_doneWithToken (h : s.master_state = .doneWithToken) : masterStep r s = doneWithToken s := by
  unfold masterStep; rw [h]

theorem masterStep_passToken (h : s.master_state = .passToken) : masterStep r s = passToken s := by
  unfold masterStep; rw [h]

theorem masterStep_noToken (h : s.master_state = .noToken) :
    masterStep r s = byFlag leaveToIdle leaveToIdle leaveToIdle noTokenQuiet s := by unfold masterStep; rw [h]

theorem masterStep_pollForMaster (h : s.master_state = .pollForMaster) :
    masterStep r s = byFlag r.pollForMaster leaveToIdle (fun s => pollNext (clearInvalid s)) pollQuiet s := by
  unfold masterStep; rw [h]

theorem masterStep_answerDataRequest (h : s.master_state = .answerDataRequest) :
    masterStep r s = answerDataRequest s := by unfold masterStep; rw [h]

end

/-- Every frame row runs NODE_STEP with some reaction to a valid frame. -/
theorem exec_frame (i : Instr) (h : isFrame i) : ∃ r, ∀ s, exec i s = nodeReact r s := by
  cases i <;> first | exact ⟨_, fun _ => rfl⟩ | exact absurd h (by simp [isFrame, Instr.position])

theorem isFrame_ite {c : Prop} [Decidable c] {i j : Instr} (hi : isFrame i) (hj : isFrame j) :
    isFrame (if c then i else j) := by split <;> assumption

/-- Every frame-type octet decodes to a frame row (30_encoding.md R117). -/
theorem isFrame_decodeHeader (ft dst src : Byte) (len : Half) (hcrc : Byte) :
    isFrame (decodeHeader ft dst src len hcrc) := by
  unfold decodeHeader
  repeat (first | exact rfl | refine isFrame_ite rfl ?_)

/-- The instruction NODE_STEP fetches is a frame row. -/
theorem isFrame_fetch (s : State) : isFrame (fetch s) := by
  exact isFrame_decodeHeader _ _ _ _ _

/-! ## The order of steps -/

@[simp] theorem waitNext_taken (patience : Nat) (wait : Option Nat) : waitNext false patience wait = none := rfl
@[simp] theorem waitNext_begins (patience : Nat) : waitNext true patience none = some patience := rfl
@[simp] theorem waitNext_goes_on (patience k : Nat) : waitNext true patience (some k) = some (k - 1) := rfl

/-- RX is due: it steps. -/
theorem freeEvent_of_rx_due {s : State} (he : rxEnabled s = true) (h : s.rx_wait = some 0) : freeEvent s = .rx := by
  simp [freeEvent, he, h]

/-- NODE is due: it steps, unless RX is due too. -/
theorem freeEvent_of_node_due {s : State} (h : s.node_wait = some 0) :
    freeEvent s = .node ∨ freeEvent s = .rx ∧ s.rx_wait = some 0 := by
  unfold freeEvent
  split
  · rename_i hr
    exact .inr ⟨rfl, by simpa using (Bool.and_eq_true_iff.mp hr).2⟩
  · exact .inl (by simp [h])

theorem takeEvent_of_agenda_cons {s : State} {e : Event} {rest : List Event} (h : s.agenda = e :: rest) :
    takeEvent s = (e, { s with agenda := rest }) := by
  simp [takeEvent, h]

/-- A free step: its event, and how long RX and NODE may still be passed over after it. -/
theorem takeEvent_of_agenda_nil {s : State} (h : s.agenda = []) :
    takeEvent s = (freeEvent s, { s with
      turn := s.turn + 1
      rx_wait := waitNext (rxEnabled s && freeEvent s != .rx) (Config.rxPatience s.turn) s.rx_wait
      node_wait := waitNext (freeEvent s != .node) (Config.nodePatience s.turn) s.node_wait }) := by
  simp [takeEvent, h]

/-- Taking an event touches the model's own fields of the order of steps only. -/
theorem takeEvent_frame (s : State) :
    { (takeEvent s).2 with
      agenda := s.agenda, turn := s.turn, rx_wait := s.rx_wait, node_wait := s.node_wait } = s := by
  unfold takeEvent
  split <;> rfl

theorem step_of_agenda_cons {s : State} {e : Event} {rest : List Event} (h : s.agenda = e :: rest) :
    step s = runEvent e { s with agenda := rest } := by
  simp [step, takeEvent, h]

theorem step_of_agenda_nil {s : State} (h : s.agenda = []) :
    step s = runEvent (freeEvent s) (takeEvent s).2 := by
  simp [step, takeEvent, h]

end Sys2Proof.Machine
end

