-- ==== Sys2Proof/Laws/Invariant.lean ====
section
/-!
SUPPORT. The parts of the invariant speak of few fields each: a state that agrees on those fields meets the part too. A
step that leaves a zone alone keeps that zone's part by one of these lemmas.
-/

namespace Sys2Proof.Machine

variable {s t : State}

theorem ConfigInv.congr (h : ConfigInv s) (cfg : t.cfg = s.cfg) (this_station : t.this_station = s.this_station)
    (max_master : t.max_master = s.max_master) (max_info_frames : t.max_info_frames = s.max_info_frames)
    (silence_ms : t.silence_ms ≤ s.cfg.silenceMax) : ConfigInv t where
  legal := cfg ▸ h.legal
  max_master_le := max_master ▸ h.max_master_le
  master_in_range := this_station ▸ max_master ▸ h.master_in_range
  info_frames_pos := max_info_frames ▸ h.info_frames_pos
  silence_le := cfg ▸ silence_ms

theorem HandoffInv.congr (h : HandoffInv s) (valid_frame : t.valid_frame = s.valid_frame)
    (valid_frame_not_for_us : t.valid_frame_not_for_us = s.valid_frame_not_for_us)
    (invalid_frame : t.invalid_frame = s.invalid_frame) (rx_state : t.rx_state = s.rx_state) : HandoffInv t where
  valid_alone := by rw [valid_frame, valid_frame_not_for_us, invalid_frame]; exact h.valid_alone
  not_for_us_alone := by rw [valid_frame_not_for_us, invalid_frame]; exact h.not_for_us_alone
  valid_done := by rw [valid_frame, rx_state]; exact h.valid_done
  not_for_us_done := by rw [valid_frame_not_for_us, rx_state]; exact h.not_for_us_done
  invalid_idle := by rw [invalid_frame, rx_state]; exact h.invalid_idle

/-- NODE clears flags and does not touch `rx_state`. -/
theorem HandoffInv.of_cleared (h : HandoffInv s) (valid_frame : t.valid_frame = true → s.valid_frame = true)
    (valid_frame_not_for_us : t.valid_frame_not_for_us = true → s.valid_frame_not_for_us = true)
    (invalid_frame : t.invalid_frame = true → s.invalid_frame = true) (rx_state : t.rx_state = s.rx_state) :
    HandoffInv t where
  valid_alone hv := by
    obtain ⟨h₁, h₂⟩ := h.valid_alone (valid_frame hv)
    constructor
    · cases hn : t.valid_frame_not_for_us
      · rfl
      · rw [valid_frame_not_for_us hn] at h₁; exact h₁
    · cases hn : t.invalid_frame
      · rfl
      · rw [invalid_frame hn] at h₂; exact h₂
  not_for_us_alone hn := by
    have h₂ := h.not_for_us_alone (valid_frame_not_for_us hn)
    cases hi : t.invalid_frame
    · rfl
    · rw [invalid_frame hi] at h₂; exact h₂
  valid_done hv := rx_state ▸ h.valid_done (valid_frame hv)
  not_for_us_done hv := rx_state ▸ h.not_for_us_done (valid_frame_not_for_us hv)
  invalid_idle hv := rx_state ▸ h.invalid_idle (invalid_frame hv)

/-- A step that leaves the RX zone alone and raises no flag keeps what is known of the frame in assembly. -/
theorem AssemblyInv.congr (h : AssemblyInv s) (cfg : t.cfg = s.cfg) (rx_state : t.rx_state = s.rx_state)
    (rx_index : t.rx_index = s.rx_index) (rx_data_length : t.rx_data_length = s.rx_data_length)
    (input_buffer : t.input_buffer = s.input_buffer) (valid_frame : t.valid_frame = true → s.valid_frame = true) :
    AssemblyInv t where
  header_index := by rw [rx_state, rx_index]; exact h.header_index
  data_index := by rw [rx_state, rx_index, rx_data_length]; exact h.data_index
  data_written := by rw [rx_state, rx_index, input_buffer, cfg]; exact h.data_written
  crc_index := by rw [rx_state, rx_index]; exact h.crc_index
  crc_written := by rw [rx_state, rx_data_length, input_buffer, cfg]; exact h.crc_written
  frame_fits hv := by rw [rx_data_length, cfg]; exact h.frame_fits (valid_frame hv)
  frame_written hv := by rw [rx_data_length, input_buffer]; exact h.frame_written (valid_frame hv)

theorem NodeInv.congr (h : NodeInv s) (this_station : t.this_station = s.this_station)
    (max_master : t.max_master = s.max_master) (master_state : t.master_state = s.master_state)
    (valid_frame : t.valid_frame = s.valid_frame) (rx_frame_type : t.rx_frame_type = s.rx_frame_type) :
    NodeInv t where
  slave_idle := by rw [isMaster, this_station, max_master, master_state]; exact h.slave_idle
  answering_valid := by rw [master_state, valid_frame]; exact h.answering_valid
  answering_der := by rw [master_state, rx_frame_type]; exact h.answering_der

/-- A step that ends outside ANSWER_DATA_REQUEST, in IDLE if the station is a slave. -/
theorem NodeInv.of_not_answering (slave : isMaster t = false → t.master_state = .idle)
    (h : t.master_state ≠ .answerDataRequest) : NodeInv t where
  slave_idle := slave
  answering_valid he := absurd he h
  answering_der he := absurd he h

theorem QueueInv.congr (h : QueueInv s) (cfg : t.cfg = s.cfg) (q : t.q = s.q) (q_head : t.q_head = s.q_head) :
    QueueInv t where
  count_le := by rw [q, cfg]; exact h.count_le
  head_lt := by rw [q_head, cfg]; exact h.head_lt
  entries := by rw [q, cfg]; exact h.entries

theorem SlotInv.congr (h : SlotInv s) (cfg : t.cfg = s.cfg) (rp_ready : t.rp_ready = true → s.rp_ready = true)
    (rp_length : t.rp_length = s.rp_length) (rp_payload : t.rp_payload = s.rp_payload)
    (rp_address : t.rp_address = s.rp_address) : SlotInv t where
  length_pos hr := by rw [rp_length]; exact h.length_pos (rp_ready hr)
  length_le hr := by rw [rp_length, cfg]; exact h.length_le (rp_ready hr)
  written hr := by rw [rp_length, rp_payload]; exact h.written (rp_ready hr)
  mac_size := by rw [rp_address, cfg]; exact h.mac_size
  adr_size := by rw [rp_address, cfg]; exact h.adr_size

theorem ArrayInv.congr (h : ArrayInv s) (cfg : t.cfg = s.cfg) (input_buffer : t.input_buffer = s.input_buffer)
    (output_buffer : t.output_buffer = s.output_buffer) (rp_payload : t.rp_payload = s.rp_payload) : ArrayInv t where
  input := by rw [input_buffer, cfg]; exact h.input
  output := by rw [output_buffer, cfg]; exact h.output
  packet := by rw [rp_payload, cfg]; exact h.packet

theorem HostInv.congr (h : HostInv s) (cfg : t.cfg = s.cfg) (reply_port : ∀ r, r ∈ t.reply_port → r ∈ s.reply_port)
    (receive_left : t.receive_left = s.receive_left) : HostInv t where
  replies r hr := by rw [cfg]; exact h.replies r (reply_port _ hr)
  wait_le := by rw [receive_left]; exact h.wait_le

/-- Removing an entry keeps the queue's bounds. -/
theorem QueueInv.popElement (h : QueueInv s) (k : Nat) : QueueInv (qPopElement k s) where
  count_le := by
    have := h.count_le
    simp only [qPopElement_q, qPopElement_cfg, List.length_eraseIdx]
    split <;> omega
  head_lt := by
    simp only [qPopElement_q_head, qPopElement_cfg, nextHead]
    split
    · exact Nat.mod_lt _ (Nat.lt_of_le_of_lt (Nat.zero_le _) h.head_lt)
    · exact h.head_lt
  entries e he := by
    rw [qPopElement_q] at he
    exact h.entries e (List.mem_of_mem_eraseIdx he)

/-- `TRANSMIT` keeps the arrays in form. -/
theorem ArrayInv.transmit (h : ArrayInv s) (ft dst src : Byte) (data : List Byte) :
    ArrayInv (transmit ft dst src data s) where
  input := by simpa using h.input
  output := by
    rw [transmit_output_buffer, transmit_cfg]
    exact Memory.sound_writeSeq h.output 0 _ (by rw [Nat.zero_add]; exact length_transmitFrame_le ft dst src data s)
  packet := by simpa using h.packet

/-- `TRANSMIT` never raises the silence counter. -/
theorem transmit_silence_le (ft dst src : Byte) (data : List Byte) (s : State) :
    (transmit ft dst src data s).silence_ms ≤ s.silence_ms := by
  rw [transmit_silence_ms]
  split <;> omega

end Sys2Proof.Machine
end

