-- ==== Sys2Proof/Laws/PerInstr.lean ====
section
/-!
SUPPORT. The family `TableRow`: the encoding of an instruction lies in its row of opcode_table.json (30_encoding.md R142):
the octet the row tests, under the row's mask, is the row's match.
-/

namespace Sys2Proof.Laws.TableRow

/-- A row's test: the offset of the octet it tests, the mask and the match. -/
structure Test where
  offset : Nat
  mask : Byte
  value : Byte

/-- The test of each row, as opcode_table.json has it (`type_mask`, `type_match`; `mask`, `match`). -/
def test : Instr → Test
  | .token .. => ⟨2, 0xFF, 0x00⟩
  | .pfm .. => ⟨2, 0xFF, 0x01⟩
  | .rpfm .. => ⟨2, 0xFF, 0x02⟩
  | .testRequest .. => ⟨2, 0xFF, 0x03⟩
  | .testResponse .. => ⟨2, 0xFF, 0x04⟩
  | .der .. => ⟨2, 0xFF, 0x05⟩
  | .dner .. => ⟨2, 0xFF, 0x06⟩
  | .replyPostponed .. => ⟨2, 0xFF, 0x07⟩
  | .reserved08 .. => ⟨2, 0xF8, 0x08⟩
  | .reserved10 .. => ⟨2, 0xF0, 0x10⟩
  | .reserved20 .. => ⟨2, 0xE0, 0x20⟩
  | .reserved40 .. => ⟨2, 0xC0, 0x40⟩
  | .proprietary .. => ⟨2, 0x80, 0x80⟩
  | .apduConfirmedRequest .. => ⟨0, 0xF0, 0x00⟩
  | .apduUnconfirmedRequest .. => ⟨0, 0xF0, 0x10⟩
  | .apduSimpleAck .. => ⟨0, 0xF0, 0x20⟩
  | .apduComplexAck .. => ⟨0, 0xF0, 0x30⟩
  | .apduSegmentAck .. => ⟨0, 0xF0, 0x40⟩
  | .apduError .. => ⟨0, 0xF0, 0x50⟩
  | .apduReject .. => ⟨0, 0xF0, 0x60⟩
  | .apduAbort .. => ⟨0, 0xF0, 0x70⟩
  | .apduReserved .. => ⟨0, 0x80, 0x80⟩
  | .npduControl .. => ⟨0, 0x00, 0x00⟩

/-- The encoding of `i` passes the test of its row. -/
def Statement (i : Instr) : Prop :=
  ∃ b, (encode i)[(test i).offset]? = some b ∧ b &&& (test i).mask = (test i).value

theorem token (dst src : Byte) (len : Half) (hcrc : Byte) :
    Statement (.token dst src len hcrc) :=
  ⟨_, rfl, by dsimp only [test]; decide⟩

theorem pfm (dst src : Byte) (len : Half) (hcrc : Byte) :
    Statement (.pfm dst src len hcrc) :=
  ⟨_, rfl, by dsimp only [test]; decide⟩

theorem rpfm (dst src : Byte) (len : Half) (hcrc : Byte) :
    Statement (.rpfm dst src len hcrc) :=
  ⟨_, rfl, by dsimp only [test]; decide⟩

theorem testRequest (dst src : Byte) (len : Half) (hcrc : Byte) :
    Statement (.testRequest dst src len hcrc) :=
  ⟨_, rfl, by dsimp only [test]; decide⟩

theorem testResponse (dst src : Byte) (len : Half) (hcrc : Byte) :
    Statement (.testResponse dst src len hcrc) :=
  ⟨_, rfl, by dsimp only [test]; decide⟩

theorem der (dst src : Byte) (len : Half) (hcrc : Byte) :
    Statement (.der dst src len hcrc) :=
  ⟨_, rfl, by dsimp only [test]; decide⟩

theorem dner (dst src : Byte) (len : Half) (hcrc : Byte) :
    Statement (.dner dst src len hcrc) :=
  ⟨_, rfl, by dsimp only [test]; decide⟩

theorem replyPostponed (dst src : Byte) (len : Half) (hcrc : Byte) :
    Statement (.replyPostponed dst src len hcrc) :=
  ⟨_, rfl, by dsimp only [test]; decide⟩

theorem reserved08 (t : BitVec 3) (dst src : Byte) (len : Half) (hcrc : Byte) :
    Statement (.reserved08 t dst src len hcrc) :=
  ⟨_, rfl, by dsimp only [test]; revert t; decide⟩

theorem reserved10 (t : BitVec 4) (dst src : Byte) (len : Half) (hcrc : Byte) :
    Statement (.reserved10 t dst src len hcrc) :=
  ⟨_, rfl, by dsimp only [test]; revert t; decide⟩

theorem reserved20 (t : BitVec 5) (dst src : Byte) (len : Half) (hcrc : Byte) :
    Statement (.reserved20 t dst src len hcrc) :=
  ⟨_, rfl, by dsimp only [test]; revert t; decide⟩

theorem reserved40 (t : BitVec 6) (dst src : Byte) (len : Half) (hcrc : Byte) :
    Statement (.reserved40 t dst src len hcrc) :=
  ⟨_, rfl, by dsimp only [test]; revert t; decide⟩

theorem proprietary (t : BitVec 7) (dst src : Byte) (len : Half) (hcrc : Byte) :
    Statement (.proprietary t dst src len hcrc) :=
  ⟨_, rfl, by dsimp only [test]; revert t; decide⟩

theorem apduConfirmedRequest (seg mor sa x : Bool) :
    Statement (.apduConfirmedRequest seg mor sa x) := by
  refine ⟨_, rfl, ?_⟩
  revert seg mor sa x; decide

theorem apduUnconfirmedRequest (x : BitVec 4) :
    Statement (.apduUnconfirmedRequest x) := by
  refine ⟨_, rfl, ?_⟩
  revert x; decide

theorem apduSimpleAck (x : BitVec 4) :
    Statement (.apduSimpleAck x) := by
  refine ⟨_, rfl, ?_⟩
  revert x; decide

theorem apduComplexAck (seg mor : Bool) (x : BitVec 2) :
    Statement (.apduComplexAck seg mor x) := by
  refine ⟨_, rfl, ?_⟩
  revert seg mor x; decide

theorem apduSegmentAck (x : BitVec 2) (nak srv : Bool) :
    Statement (.apduSegmentAck x nak srv) := by
  refine ⟨_, rfl, ?_⟩
  revert x nak srv; decide

theorem apduError (x : BitVec 4) :
    Statement (.apduError x) := by
  refine ⟨_, rfl, ?_⟩
  revert x; decide

theorem apduReject (x : BitVec 4) :
    Statement (.apduReject x) := by
  refine ⟨_, rfl, ?_⟩
  revert x; decide

theorem apduAbort (x : BitVec 3) (srv : Bool) :
    Statement (.apduAbort x srv) := by
  refine ⟨_, rfl, ?_⟩
  revert x srv; decide

theorem apduReserved (x : BitVec 7) :
    Statement (.apduReserved x) := by
  refine ⟨_, rfl, ?_⟩
  revert x; decide

theorem npduControl (nlm reserved6 dstPresent reserved4 srcPresent expectingReply : Bool) (priority : BitVec 2) :
    Statement (.npduControl nlm reserved6 dstPresent reserved4 srcPresent expectingReply priority) := by
  refine ⟨_, rfl, ?_⟩
  exact BitVec.and_zero

end Sys2Proof.Laws.TableRow
end

