-- ==== Sys2Proof/Laws/Receive.lean ====
section
/-!
SUPPORT. What a step of RX can do, said once: each state-specific effect of `RX_BYTE` as one update of the state, and the
choice among `RX_REARM`, `RX_ABORT`, `RX_BYTE` and rest.
-/

namespace Sys2Proof.Machine

/-- Storing a header octet writes at most one of the four header registers. -/
theorem storeHeaderOctet_eq (b : Byte) (s : State) :
    storeHeaderOctet b s =
      { s with
        rx_frame_type := if s.rx_index.toNat = 0 then b else s.rx_frame_type
        rx_destination := if s.rx_index.toNat = 1 then b else s.rx_destination
        rx_source := if s.rx_index.toNat = 2 then b else s.rx_source
        rx_data_length :=
          if s.rx_index.toNat = 3 then joinOctets b 0
          else if s.rx_index.toNat = 4 then joinOctets (hiOctet s.rx_data_length) b
          else s.rx_data_length } := by
  unfold storeHeaderOctet
  split <;> rename_i h
  · simp [h]
  · simp [h]
  · simp [h]
  · simp [h]
  · simp [h]
  · rename_i h0 h1 h2 h3
    rw [if_neg h0, if_neg h1, if_neg h2, if_neg h3, if_neg h]

/-- The effect of `HEADER` (42_receive_fsm.md R199). -/
theorem rxHeader_eq (b : Byte) (s : State) :
    rxHeader b s =
      { storeHeaderOctet b s with
        rx_header_crc := crc8Update b s.rx_header_crc
        rx_index := s.rx_index + 1
        rx_state := if s.rx_index + 1 = 5 then .headerCrcCheck else s.rx_state } := by
  unfold rxHeader
  simp only [storeHeaderOctet_eq]
  split <;> rfl

/-- The effect of `DATA` (42_receive_fsm.md R203). -/
theorem rxData_eq (b : Byte) (s : State) :
    rxData b s =
      { s with
        rx_data_crc := crc16Update b s.rx_data_crc
        input_buffer :=
          if s.rx_index.toNat < s.cfg.maxPdu then s.input_buffer.write s.rx_index.toNat b else s.input_buffer
        rx_index := if s.rx_index + 1 = s.rx_data_length then 0 else s.rx_index + 1
        rx_state := if s.rx_index + 1 = s.rx_data_length then .dataCrcCheck else s.rx_state } := by
  unfold rxData
  by_cases h : s.rx_index.toNat < s.cfg.maxPdu <;> by_cases h' : s.rx_index + 1 = s.rx_data_length <;>
    simp only [h, h', if_true, if_false]

/-- The three outcomes of `HEADER_CRC_CHECK` (42_receive_fsm.md R200 to R202). -/
theorem rxHeaderCrcCheck_cases (b : Byte) (s : State) :
    let c := crc8Update b s.rx_header_crc
    let u := { s with rx_header_crc := c }
    c ≠ crc8Residue ∧ rxHeaderCrcCheck b s = discardFrame u ∨
    c = crc8Residue ∧ s.rx_data_length = 0 ∧ rxHeaderCrcCheck b s = completeFrame u ∨
    c = crc8Residue ∧ s.rx_data_length ≠ 0 ∧
      rxHeaderCrcCheck b s = { u with rx_index := 0, rx_data_crc := crc16Init, rx_state := .data } := by
  dsimp only
  unfold rxHeaderCrcCheck
  by_cases h : crc8Update b s.rx_header_crc = crc8Residue
  · by_cases h' : s.rx_data_length = 0
    · exact .inr (.inl ⟨h, h', by dsimp only; rw [if_neg (not_not_intro h), if_pos h']⟩)
    · exact .inr (.inr ⟨h, h', by dsimp only; rw [if_neg (not_not_intro h), if_neg h']⟩)
  · exact .inl ⟨h, by dsimp only; rw [if_pos h]⟩

/-- The three outcomes of `DATA_CRC_CHECK` (42_receive_fsm.md R204, R206). -/
theorem rxDataCrcCheck_cases (b : Byte) (s : State) :
    let c := crc16Update b s.rx_data_crc
    let u := { s with rx_data_crc := c }
    s.rx_index = 0 ∧ rxDataCrcCheck b s = { u with rx_index := 1 } ∨
    s.rx_index ≠ 0 ∧ (c = crc16Residue ∧ s.rx_data_length.toNat ≤ s.cfg.maxPdu) ∧
      rxDataCrcCheck b s = completeFrame { u with rx_index := 2 } ∨
    s.rx_index ≠ 0 ∧ ¬ (c = crc16Residue ∧ s.rx_data_length.toNat ≤ s.cfg.maxPdu) ∧
      rxDataCrcCheck b s = discardFrame { u with rx_index := 2 } := by
  dsimp only
  unfold rxDataCrcCheck
  by_cases h : s.rx_index = 0
  · simp [h]
  · by_cases h' : crc16Update b s.rx_data_crc = crc16Residue ∧ s.rx_data_length.toNat ≤ s.cfg.maxPdu
    · exact .inr (.inl ⟨h, h', by dsimp only; rw [if_neg h, if_pos h']⟩)
    · exact .inr (.inr ⟨h, h', by dsimp only; rw [if_neg h, if_neg h']⟩)

/-- What a step of RX does (42_receive_fsm.md R190): re-arm, give up, take an octet, or rest. -/
theorem rxStep_cases (s : State) :
    rearmEnabled s = true ∧ rxStep s = rxRearm s ∨
    abortEnabled s = true ∧ rxStep s = rxAbort s ∨
    (rxReady s = true ∧ abortEnabled s = false ∧ ∃ b rest, s.rx_stream = b :: rest ∧ rxStep s = rxByte b rest s) ∨
    rxStep s = s := by
  unfold rxStep
  split
  · rename_i h; exact .inl ⟨h, rfl⟩
  · split
    · rename_i h; exact .inr (.inl ⟨h, rfl⟩)
    · split
      · rename_i h' h
        split
        · rename_i b rest hs
          exact .inr (.inr (.inl ⟨h, by simpa using h', b, rest, hs, rfl⟩))
        · exact .inr (.inr (.inr rfl))
      · exact .inr (.inr (.inr rfl))

/-- RX has a step exactly when one of its three operations is enabled (42_receive_fsm.md R190). -/
theorem rxEnabled_eq_true {s : State} :
    rxEnabled s = true ↔
      rearmEnabled s = true ∨ abortEnabled s = true ∨ (rxReady s = true ∧ s.rx_stream ≠ []) := by
  simp [rxEnabled, or_assoc]

/-- With none enabled RX rests (42_receive_fsm.md R208). -/
theorem rxStep_of_not_enabled {s : State} (h : rxEnabled s = false) : rxStep s = s := by
  simp only [rxEnabled, Bool.or_eq_false_iff] at h
  unfold rxStep
  rw [h.1.1, h.1.2]
  cases hr : rxReady s
  · rfl
  · cases hs : s.rx_stream
    · rfl
    · simp [hr, hs] at h

/-- When an octet is taken, the step is the state's effect on it (42_receive_fsm.md R192). -/
theorem rxStep_of_byte {s : State} {b : Byte} {rest : List Byte} (hr : rxReady s = true) (ha : abortEnabled s = false)
    (hs : s.rx_stream = b :: rest) : rxStep s = rxByte b rest s := by
  unfold rxStep
  have : rearmEnabled s = false := by simp [rearmEnabled, hr]
  simp [this, ha, hr, hs]

/-- A raised flag keeps RX at rest (42_receive_fsm.md R208). -/
theorem rxStep_of_flag {s : State} (h : HandoffInv s) (hf : anyFlag s = true) : rxStep s = s := by
  have hrest : rxReady s = false := by
    unfold anyFlag at hf
    simp only [Bool.or_eq_true] at hf
    rcases hf with (hf | hf) | hf
    · simp [rxReady, h.valid_done hf]
    · simp [rxReady, h.not_for_us_done hf]
    · simp [rxReady, h.invalid_idle hf]
  unfold rxStep
  simp [rearmEnabled, abortEnabled, hrest, hf]

end Sys2Proof.Machine
end

