-- ==== Sys2Proof/Tests/Slice0.lean ====
section
/-!
SUPPORT. Tests: words written out from the spec's encodings, ill-formed terms that `wellFormed` refuses, one step of each
instruction (expected results from 95_test_vectors.md, whose ids V… are named), and for every obligation with hypotheses
a concrete state and operands that meet them, one theorem per obligation.
-/

open Sys2Proof Sys2Proof.Machine

/-! ## Decoding words written out octet by octet (30_encoding.md R110, R117, R131 to R135) -/

/-- V10. -/
theorem test_decode_token :
    decode .wire [0b01010101, 0b11111111, 0b00000000, 2, 1, 0, 0, 0x73] = .ok (.token 2 1 0 0x73, []) := rfl
/-- V14. -/
theorem test_decode_pfm :
    decode .wire [0b01010101, 0b11111111, 0b00000001, 2, 1, 0, 0, 0xF5] = .ok (.pfm 2 1 0 0xF5, []) := rfl
/-- V19. -/
theorem test_decode_rpfm :
    decode .wire [0b01010101, 0b11111111, 0b00000010, 1, 2, 0, 0, 0x4F] = .ok (.rpfm 1 2 0 0x4F, []) := rfl
/-- V26. -/
theorem test_decode_testRequest :
    decode .wire [0b01010101, 0b11111111, 0b00000011, 2, 1, 0, 0, 0xFA] = .ok (.testRequest 2 1 0 0xFA, []) := rfl
theorem test_decode_testResponse :
    decode .wire [0b01010101, 0b11111111, 0b00000100, 2, 1, 0, 0, 0] = .ok (.testResponse 2 1 0 0, []) := rfl
/-- V30, the header. -/
theorem test_decode_der :
    decode .wire [0b01010101, 0b11111111, 0b00000101, 2, 1, 0x00, 0x0D, 0x11] = .ok (.der 2 1 13 0x11, []) := rfl
/-- V29, the header: the length octets stand most significant first. -/
theorem test_decode_dner :
    decode .wire [0b01010101, 0b11111111, 0b00000110, 2, 1, 0x01, 0x00, 0xC9] = .ok (.dner 2 1 256 0xC9, []) := rfl
theorem test_decode_replyPostponed :
    decode .wire [0b01010101, 0b11111111, 0b00000111, 5, 9, 0, 0, 0] = .ok (.replyPostponed 5 9 0 0, []) := rfl
/-- V28. -/
theorem test_decode_reserved08 :
    decode .wire [0b01010101, 0b11111111, 0b00001000, 2, 1, 0, 0, 0x4F] = .ok (.reserved08 0 2 1 0 0x4F, []) := rfl
theorem test_decode_reserved10 :
    decode .wire [0b01010101, 0b11111111, 0b00011010, 2, 1, 0, 0, 0] = .ok (.reserved10 0b1010 2 1 0 0, []) := rfl
theorem test_decode_reserved20 :
    decode .wire [0b01010101, 0b11111111, 0b00110001, 2, 1, 0, 0, 0] = .ok (.reserved20 0b10001 2 1 0 0, []) := rfl
theorem test_decode_reserved40 :
    decode .wire [0b01010101, 0b11111111, 0b01100001, 2, 1, 0, 0, 0] = .ok (.reserved40 0b100001 2 1 0 0, []) := rfl
/-- V27, with free type bits. -/
theorem test_decode_proprietary :
    decode .wire [0b01010101, 0b11111111, 0b10000001, 2, 1, 0, 0, 0] = .ok (.proprietary 1 2 1 0 0, []) := rfl
theorem test_decode_apduConfirmedRequest :
    decode .apdu [0b00001100] = .ok (.apduConfirmedRequest true true false false, []) := rfl
theorem test_decode_apduUnconfirmedRequest :
    decode .apdu [0b00010000] = .ok (.apduUnconfirmedRequest 0, []) := rfl
theorem test_decode_apduSimpleAck : decode .apdu [0b00100000] = .ok (.apduSimpleAck 0, []) := rfl
theorem test_decode_apduComplexAck : decode .apdu [0b00110100] = .ok (.apduComplexAck false true 0, []) := rfl
theorem test_decode_apduSegmentAck : decode .apdu [0b01000010] = .ok (.apduSegmentAck 0 true false, []) := rfl
theorem test_decode_apduError : decode .apdu [0b01010000] = .ok (.apduError 0, []) := rfl
theorem test_decode_apduReject : decode .apdu [0b01100000] = .ok (.apduReject 0, []) := rfl
theorem test_decode_apduAbort : decode .apdu [0b01110001] = .ok (.apduAbort 0 true, []) := rfl
theorem test_decode_apduReserved : decode .apdu [0b11110000] = .ok (.apduReserved 0b1110000, []) := rfl
/-- The control octet `0x24` of RQR (V68). -/
theorem test_decode_npduControl :
    decode .npdu [0b00100100] = .ok (.npduControl false false true false false true 0, []) := rfl
/-- What is no frame is refused by name (R111). -/
theorem test_decode_refuses :
    decode .wire [0x54, 0xFF, 0, 2, 1, 0, 0, 0x73] = .error .noPreamble1 ∧
    decode .wire [0x55, 0xFE, 0, 2, 1, 0, 0, 0x73] = .error .noPreamble2 ∧
    decode .wire [0x55, 0xFF, 0, 2, 1, 0, 0] = .error .tooShort ∧ decode .apdu [] = .error .noOctet ∧
    decode .npdu [] = .error .noOctet := ⟨rfl, rfl, rfl, rfl, rfl⟩
/-- A table word: V22's header, octet 0 most significant (R142). -/
theorem test_decodeTableWord :
    decodeTableWord 64 0x55FF06020100029D = some (.dner 2 1 2 0x9D) ∧
    decodeTableWord 8 0x30 = some (.apduComplexAck false false 0) := by decide

/-! ## Well-formedness -/

/-- V10, V14, V19, V26, V22, V27 and V28 are well-formed. -/
theorem test_wellFormed_accepts :
    (Instr.token 2 1 0 0x73).wellFormed ∧ (Instr.pfm 2 1 0 0xF5).wellFormed ∧ (Instr.rpfm 1 2 0 0x4F).wellFormed ∧
    (Instr.testRequest 2 1 0 0xFA).wellFormed ∧ (Instr.der 2 1 13 0x11).wellFormed ∧
    (Instr.dner 2 1 2 0x9D).wellFormed ∧ (Instr.proprietary 0 2 1 0 0xB6).wellFormed ∧
    (Instr.reserved08 0 2 1 0 0x4F).wellFormed := by decide +kernel
/-- A frame row with a wrong header CRC octet is not (R114). -/
theorem test_wellFormed_refuses_crc :
    [Instr.token 2 1 0 0x72, .pfm 2 1 0 0xF4, .rpfm 1 2 0 0x4E, .testRequest 2 1 0 0xFB, .testResponse 2 1 0 0xFA,
     .der 2 1 12 0x11, .dner 3 1 2 0x9D, .replyPostponed 2 1 0 0xFA, .reserved08 1 2 1 0 0x4F, .reserved10 0 2 1 0 0x4F,
     .reserved20 0 2 1 0 0x4F, .reserved40 0 2 1 0 0x4F, .proprietary 1 2 1 0 0xB6].all
      (fun i => i.wellFormed == false) = true := by decide +kernel
/-- Nor is an APDU octet with a bit set that its layout fixes at 0 (R133 to R135). -/
theorem test_wellFormed_refuses_spare :
    [Instr.apduConfirmedRequest false false false true, .apduSimpleAck 8, .apduComplexAck false false 1,
     .apduSegmentAck 2 false false, .apduError 1, .apduReject 4, .apduAbort 4 true].all
      (fun i => i.wellFormed == false) = true := by decide

/-! ## One step of each instruction -/

/-- A station of address `ts` with `max_master` `nm`, otherwise as after reset. -/
def station (ts nm : Byte) : State := { State.reset with this_station := ts, max_master := nm }

/-- A master of address 5 in the state `ms`. -/
def master (ms : MasterState) : State := { station 5 127 with master_state := ms }

/-- RX has raised `valid_frame` for a frame with the data `data`. -/
def withFrame (data : List Byte) (s : State) : State :=
  { s with
    rx_state := .done, valid_frame := true, rx_data_length := BitVec.ofNat 16 data.length
    input_buffer := Memory.writeSeq [] 0 data }

/-- A master of address 1 that waits for the answer to one request: invoke-id `0x2A`, service choice `0x0C`, sent to 2 (REQ
of 95_test_vectors.md, cut after its service choice); the candidate reply from 2 is `reply`. -/
def waiting (reply : List Byte) : State :=
  { withFrame reply (station 1 127) with
    master_state := .waitForReply
    rx_frame_type := 0x06
    rx_destination := 1
    rx_source := 2
    q := [newEntry 2 [0x01, 0x04, 0x00, 0x05, 0x2A, 0x0C] true] }

/-- A field of the next state. -/
def after {α : Type} (f : State → α) : Result → Option α
  | .next s => some (f s)
  | .fault _ => none
  | .refused _ => none

/-- What the tests of a correlation look at: the state, the queue's length and the flag. -/
def correlated (s : State) : MasterState × Nat × Bool := (s.master_state, s.q.length, s.rp_ready)

/-- V83c. -/
theorem test_token :
    after (fun s => (s.master_state, s.valid_frame)) (exec (.token 5 9 1 0) (withFrame [0xAA] (master .idle))) =
      some (.useToken, false) := by decide
/-- V82: a broadcast token is dropped. -/
theorem test_token_broadcast :
    after (fun s => (s.master_state, s.valid_frame)) (exec (.token 255 9 0 0) (withFrame [] (master .idle))) =
      some (.idle, false) := by decide
/-- V81. -/
theorem test_pfm :
    after State.tx_stream (exec (.pfm 5 9 0 0) (withFrame [] (master .idle))) =
      some [0x55, 0xFF, 0x02, 0x09, 0x05, 0x00, 0x00, 0xC6] := by decide +kernel
/-- V89a. -/
theorem test_rpfm :
    after (fun s => (s.next_station, s.master_state)) (exec (.rpfm 5 3 0 0) (withFrame [] (master .pollForMaster))) =
      some (3, .passToken) := by decide
/-- V100. -/
theorem test_der_slave :
    after State.tx_stream
      (exec (.der 200 9 7 0)
        { withFrame [1, 4, 0, 5, 7, 0xF, 1] (station 200 127) with reply_port := [some [1, 0, 0x20, 7, 0xF]] }) =
      some [0x55, 0xFF, 0x06, 0x09, 0xC8, 0x00, 0x05, 0x57, 0x01, 0x00, 0x20, 0x07, 0x0F, 0xF7, 0x72] := by
  decide +kernel
/-- V83: a broadcast request is delivered and not answered. -/
theorem test_der_broadcast :
    after (fun s => (s.rp_ready, s.rp_address.mac.first, s.tx_stream))
      (exec (.der 255 9 2 0) (withFrame [1, 0] (master .idle))) = some (true, 9, []) := by decide
/-- V83a: an empty frame is not delivered. -/
theorem test_dner_empty :
    after (fun s => (s.rp_ready, s.valid_frame)) (exec (.dner 5 9 0 0) (withFrame [] (master .idle))) =
      some (false, false) := by decide
/-- V60: a matching reply. -/
theorem test_dner_reply :
    after correlated (exec (.dner 1 2 5 0) (waiting [1, 0, 0x30, 0x2A, 0x0C])) = some (.useToken, 0, true) := by
  decide
/-- V82, for the types with no function: dropped in `IDLE`. -/
theorem test_ignored_idle :
    [Instr.testRequest 5 9 0 0, .testResponse 5 9 0 0, .replyPostponed 5 9 0 0, .reserved08 0 5 9 0 0,
     .reserved10 0 5 9 0 0, .reserved20 0 5 9 0 0, .reserved40 0 5 9 0 0, .proprietary 0 5 9 0 0].all
      (fun i => after (fun s => (s.master_state, s.valid_frame)) (exec i (withFrame [] (master .idle))) ==
        some (.idle, false)) = true := by decide
/-- V75 (`none`): an unconfirmed request, a confirmed one and a reserved type are no reply. -/
theorem test_apdu_no_reply :
    after correlated (exec (.apduUnconfirmedRequest 0) (waiting [1, 0, 0x10, 8])) = some (.waitForReply, 1, false) ∧
    after correlated (exec (.apduConfirmedRequest false false false false) (waiting [1, 0, 0x00, 5, 0x2A, 0x0C])) =
      some (.waitForReply, 1, false) ∧
    after correlated (exec (.apduReserved 0) (waiting [1, 0, 0x80, 0x2A, 0x0C])) = some (.waitForReply, 1, false) := by
  decide
/-- V70 and V71: the simple-ack's service choice counts. -/
theorem test_apduSimpleAck :
    after correlated (exec (.apduSimpleAck 0) (waiting [1, 0, 0x20, 0x2A, 0x0C])) = some (.useToken, 0, true) ∧
    after correlated (exec (.apduSimpleAck 0) (waiting [1, 0, 0x20, 0x2A, 0x0F])) = some (.waitForReply, 1, false) := by
  decide
/-- V79 and V61: the segmented complex-ack, and a wrong invoke-id. -/
theorem test_apduComplexAck :
    after correlated (exec (.apduComplexAck true false 0) (waiting [1, 0, 0x38, 0x2A, 0, 4, 0x0C, 0x0C])) =
      some (.useToken, 0, true) ∧
    after correlated (exec (.apduComplexAck false false 0) (waiting [1, 0, 0x30, 0x2B, 0x0C])) =
      some (.waitForReply, 1, false) := by decide
/-- V70. -/
theorem test_apduSegmentAck :
    after correlated (exec (.apduSegmentAck 0 false false) (waiting [1, 0, 0x40, 0x2A, 0, 1])) =
      some (.useToken, 0, true) := by decide
/-- V70. -/
theorem test_apduError :
    after correlated (exec (.apduError 0) (waiting [1, 0, 0x50, 0x2A, 0x0C, 0x91, 2, 0x91, 0x20])) =
      some (.useToken, 0, true) := by decide
/-- V63. -/
theorem test_apduReject :
    after correlated (exec (.apduReject 0) (waiting [1, 0, 0x60, 0x2A, 9])) = some (.useToken, 0, true) := by
  decide
/-- V70. -/
theorem test_apduAbort :
    after correlated (exec (.apduAbort 0 true) (waiting [1, 0, 0x71, 0x2A, 4])) = some (.useToken, 0, true) := by
  decide
/-- V60 and V64: a network-layer message never matches. -/
theorem test_npduControl :
    after correlated (exec (decodeNpduControl 0x00) (waiting [1, 0x00, 0x30, 0x2A, 0x0C])) =
      some (.useToken, 0, true) ∧
    after correlated (exec (decodeNpduControl 0x80) (waiting [1, 0x80, 1, 0, 0x2A])) =
      some (.waitForReply, 1, false) := by decide
/-- The step runs the placed word: V10 addressed to a station that is a slave is dropped. -/
theorem test_withFetchWord :
    after (fun s => (s.rx_frame_type, s.agenda.length, s.valid_frame_not_for_us))
      (step (State.reset.withFetchWord 64 0x55FF000201000073)) = some (0, 0, false) := by decide +kernel
/-- V5 and V9. -/
theorem test_crc :
    headerCrc 0 2 1 0 = 0x73 ∧ dataCrc [1, 2] = 0x358D := by decide +kernel
/-- The memories of the reset state have the canonical form. -/
theorem test_reset_arrays_sound : ArrayInv State.reset := reset_arrays_sound _

/-! ## Witnesses: states and operands that meet the hypotheses of the obligations, at the edges of their ranges -/

/-- A master of address 5 in `ms` with `silence_ms = n`. -/
def silent (ms : MasterState) (n : Nat) : State := { master ms with silence_ms := n }

/-- RX in the state `rs` with one octet waiting. -/
def receiving (rs : RxState) (idx : Half) (b : Byte) : State :=
  { station 5 127 with rx_state := rs, rx_index := idx, rx_stream := [b] }

/-- One queue entry for station 2. -/
def queued (er : Bool) (s : State) : State := { s with q := [newEntry 2 [7] er] }

/-- The reply of V60 (`some 0`), cut after its service choice, and one with another invoke-id. -/
def goodReply : List Byte := [1, 0, 0x30, 0x2A, 0x0C]
def otherReply : List Byte := [1, 0, 0x30, 0x2B, 0x0C]

/-- The smallest parameters that 00_scope.md R7 allows. -/
def smallest : Config where
  maxPdu := 1
  queueCap := 1
  maxMacLen := 1
  tNoToken := 1
  tSlot := 0
  tReplyTimeout := 1
  tUsageTimeout := 1
  tFrameAbort := 1
  silenceW := 1
  ringExpand := false
  derTimeoutRetain := true

theorem default_legal : Config.default.Legal := by constructor <;> decide

theorem witness_EncodeDecode : ∃ p bs rest i, decode p bs = .ok (i, rest) ∧ 8 ≤ bs.length :=
  ⟨.wire, [0x55, 0xFF, 0, 2, 1, 0, 0, 0x73], [], .token 2 1 0 0x73, rfl, by decide⟩

theorem witness_StepRunsDecoded :
    let s := { withFrame [] (master .idle) with agenda := [.node] }
    s.agenda = .node :: [] ∧ decode .wire (fetchOctets s) = .ok (fetch s, []) :=
  ⟨rfl, decodeFrame_headerOctets _ _ _ _ _ []⟩

theorem witness_CorrelatorRunsDecoded :
    let s := waiting goodReply
    correlating s = true ∧ InputIs s s.rx_data_length goodReply ∧
      (∃ v c i rest, goodReply = v :: c ∧ decode .npdu c = .ok (i, rest)) ∧
      ∃ nr i rest, npduParse goodReply = some nr ∧ decode .apdu nr.apdu = .ok (i, rest) :=
  ⟨rfl, rfl, ⟨_, _, _, _, rfl, rfl⟩, _, _, _, rfl, rfl⟩

theorem witness_FetchedAsReceived :
    let s := { station 5 127 with rx_state := .header, rx_header_crc := 0xFF }
    s.rx_state = .header ∧ s.rx_index = 0 ∧ s.rx_header_crc = crc8Init := ⟨rfl, rfl, rfl⟩

theorem witness_ResetInv : smallest.Legal ∧ { Config.default with maxPdu := 65535 }.Legal :=
  ⟨by constructor <;> decide, by constructor <;> decide⟩

/-- A slave that has received V25, with NODE next. -/
def received : State := { withFrame [0x01, 0x22, 0x30] (station 200 127) with agenda := [.node] }

theorem received_inv : Inv received where
  config := ⟨default_legal, by decide, by decide, by decide, by decide⟩
  handoff := ⟨by decide, by decide, by decide, by decide, by decide⟩
  assembly :=
    ⟨by decide, by decide, nofun, by decide, nofun, by decide, fun _ => Memory.written_writeSeq [] [0x01, 0x22, 0x30]⟩
  node := ⟨by decide, by decide, by decide⟩
  queue := ⟨by decide, by decide, nofun⟩
  slot := ⟨by decide, by decide, nofun, by decide, by decide⟩
  arrays := ⟨⟨by decide, by decide⟩, Memory.sound_nil _, Memory.sound_nil _⟩
  host := ⟨nofun, nofun⟩

theorem witness_StepKeepsInv : Inv received ∧ ∃ t, step received = .next t := ⟨received_inv, _, rfl⟩

theorem witness_RunsGoOnFairly : Inv received := received_inv

/-- Both are due (20_memory.md R91): RX re-arms, and NODE steps next. -/
theorem test_due_rx_then_node :
    let s := { station 5 127 with rx_wait := some 0, node_wait := some 0 }
    (takeEvent s).1 = .rx ∧ (takeEvent (rxStep (takeEvent s).2)).1 = .node := ⟨rfl, rfl⟩

theorem witness_FrameLayout : (List.replicate 65535 (0 : Byte)).length ≤ 65535 := List.length_replicate.le

theorem witness_ParseConstruct : Config.default.Legal ∧ (List.replicate 501 (0 : Byte)).length ≤ Config.default.maxPdu :=
  ⟨default_legal, List.length_replicate.le⟩

theorem witness_TickSaturates : (silent .idle 65535).silence_ms ≤ 2 ^ (silent .idle 65535).cfg.silenceW - 1 := by decide

/-- `RX_ABORT`, a PFM sent by NODE, and RESET. -/
theorem witness_SilenceResets :
    (let s := { receiving .header 2 7 with silence_ms := 30 };
      s.silence_ms ≤ s.cfg.silenceMax ∧ ∃ t, runEvent .rx s = .next t ∧ t.silence_ms < s.silence_ms) ∧
    (let s := silent .idle 550;
      s.silence_ms ≤ s.cfg.silenceMax ∧ ∃ t, runEvent .node s = .next t ∧ t.silence_ms < s.silence_ms) ∧
    (let s := silent .idle 65535;
      s.silence_ms ≤ s.cfg.silenceMax ∧ ∃ t, runEvent .reset s = .next t ∧ t.silence_ms < s.silence_ms) :=
  ⟨⟨by decide, _, rfl, by decide⟩, ⟨by decide, _, rfl, by decide⟩, ⟨by decide, _, rfl, by decide⟩⟩

theorem witness_RxRearmAndAbort :
    (∀ rs, rs = RxState.idle ∨ rs = .done →
      let s := { station 5 127 with rx_state := rs }
      (s.rx_state = .idle ∨ s.rx_state = .done) ∧ NoFlag s) ∧
    (∀ rs, rs = RxState.preamble2 ∨ rs = .header ∨ rs = .headerCrcCheck ∨ rs = .data ∨ rs = .dataCrcCheck →
      let s := { station 5 127 with rx_state := rs, silence_ms := 30 }
      s.rx_state = rs ∧ s.cfg.tFrameAbort ≤ s.silence_ms) ∧
    (∃ t, runEvent .rx received = .next t ∧ received.rx_state = .done ∧ anyFlag received = true) ∧
    (let s := { station 5 127 with rx_state := .data, silence_ms := 29 };
      ∃ t, runEvent .rx s = .next t ∧ s.silence_ms < s.cfg.tFrameAbort ∧ s.rx_stream = []) :=
  ⟨fun _ h => ⟨h, rfl, rfl, rfl⟩, fun _ _ => ⟨rfl, (by decide : 30 ≤ 30)⟩, ⟨_, rfl, rfl, rfl⟩, _, rfl, by decide, rfl⟩

theorem witness_RxPreamble :
    (receiving .preamble1 0 0x55).rx_stream = [0x55] ∧ (receiving .preamble1 0 0x13).rx_state = .preamble1 ∧
    (∀ b : Byte, let s := { receiving .preamble2 0 b with silence_ms := 29 };
      s.rx_stream = [b] ∧ s.rx_state = .preamble2 ∧ s.silence_ms < s.cfg.tFrameAbort) :=
  ⟨rfl, rfl, fun _ => ⟨rfl, rfl, (by decide : 29 < 30)⟩⟩

theorem witness_RxHeader : ∀ (k : Half) (b : Byte),
    let s := { receiving .header k b with silence_ms := 29 }
    s.rx_stream = [b] ∧ s.rx_state = .header ∧ s.silence_ms < s.cfg.tFrameAbort ∧ s.rx_index = k :=
  fun _ _ => ⟨rfl, rfl, (by decide : 29 < 30), rfl⟩

/-- V5's header CRC octet, right and wrong, without data for this station, for all and for another, and with data. -/
theorem witness_RxHeaderCrcCheck :
    let s := { receiving .headerCrcCheck 5 0x73 with rx_header_crc := 0x8C, silence_ms := 29 }
    s.rx_stream = [0x73] ∧ s.rx_state = .headerCrcCheck ∧ s.silence_ms < s.cfg.tFrameAbort ∧
    crc8Update 0x72 s.rx_header_crc ≠ 0x55 ∧ crc8Update 0x73 s.rx_header_crc = 0x55 ∧ s.rx_data_length = 0 ∧
    { s with rx_destination := 5 }.rx_destination = s.this_station ∧ { s with rx_destination := 255 }.rx_destination = 255 ∧
    ¬ ({ s with rx_destination := 2 }.rx_destination = s.this_station) ∧ { s with rx_data_length := 1 }.rx_data_length ≠ 0 := by
  decide

/-- The last place of the buffer, and the first octet beyond it. -/
theorem witness_RxData : ∀ k : Half, k = 500 ∨ k = 501 →
    let s := { receiving .data k 7 with silence_ms := 29 }
    s.rx_stream = [7] ∧ s.rx_state = .data ∧ s.silence_ms < s.cfg.tFrameAbort ∧
      ((500 : Half).toNat < s.cfg.maxPdu ∧ s.cfg.maxPdu ≤ (501 : Half).toNat) :=
  fun _ _ => ⟨rfl, rfl, (by decide : 29 < 30), (by decide : 500 < 501), (by decide : 501 ≤ 501)⟩

/-- The residue of V9, a damaged octet, and a frame one octet longer than the buffer. -/
theorem witness_RxDataCrcCheck :
    let s := { receiving .dataCrcCheck 1 0x35 with rx_data_crc := 0x0FB2, rx_data_length := 501, silence_ms := 29 }
    s.rx_stream = [0x35] ∧ s.rx_state = .dataCrcCheck ∧ s.silence_ms < s.cfg.tFrameAbort ∧ s.rx_index = 1 ∧
    (receiving .dataCrcCheck 0 0x8D).rx_index = 0 ∧ crc16Update 0x35 s.rx_data_crc = 0xF0B8 ∧
    crc16Update 0x34 s.rx_data_crc ≠ 0xF0B8 ∧ s.rx_data_length.toNat ≤ s.cfg.maxPdu ∧
    s.cfg.maxPdu < { s with rx_data_length := 502 }.rx_data_length.toNat ∧
    { s with rx_destination := 5 }.rx_destination = s.this_station ∧
    { s with rx_destination := 2 }.rx_destination ≠ s.this_station := by decide

theorem witness_RxFrame : ∃ t, runEvent .rx (receiving .data 3 7) = .next t := ⟨_, rfl⟩

/-- A station that hunts for a frame and finds one of `data` for `dst`, then `rest`. -/
def hunting (dst : Byte) (data rest : List Byte) : State :=
  { station 5 127 with rx_state := .preamble1, rx_stream := constructFrame 0x06 dst 9 data 511 ++ rest }

theorem witness_RxAcceptsFrame : ∀ (dst : Byte) (data : List Byte), data.length ≤ 501 →
    let s := hunting dst data [0x13]
    let gaps := List.replicate (constructFrame 0x06 dst 9 data 511).length 29
    s.cfg.Legal ∧ NoFlag s ∧ s.rx_state = .preamble1 ∧ data.length ≤ s.cfg.maxPdu ∧
    s.rx_stream = constructFrame 0x06 dst 9 data s.cfg.outCap ++ [0x13] ∧
    gaps.length = (constructFrame 0x06 dst 9 data s.cfg.outCap).length ∧ ∀ g, g ∈ gaps.tail → g < s.cfg.tFrameAbort :=
  fun _ _ h => ⟨default_legal, ⟨rfl, rfl, rfl⟩, rfl, h, rfl, List.length_replicate,
    fun _ hg => by rw [List.eq_of_mem_replicate (List.mem_of_mem_tail hg)]; exact (by decide : 29 < 30)⟩

/-- V22 with its first and its last octet after the preamble changed. -/
theorem witness_RxRejectsDamage :
    let f := constructFrame 0x06 2 1 [1, 2] 511
    f.length = 12 ∧ f[2]? ≠ some 0x07 ∧ f[11]? ≠ some 0xB5 ∧
    Config.default.Legal ∧ NoFlag { hunting 2 [] [] with rx_stream := f.set 2 0x07 } :=
  ⟨by decide +kernel, by decide +kernel, by decide +kernel, default_legal, rfl, rfl, rfl⟩

/-- A flag raised, and an event that comes meanwhile: NODE, and RX with an octet waiting. -/
theorem witness_HandoffStable :
    let s := { received with rx_stream := [0x55] }
    HandoffInv s ∧ anyFlag s = true ∧ (∃ t, runEvent .node s = .next t) ∧ ∃ t, runEvent .rx s = .next t :=
  ⟨⟨by decide, by decide, by decide, by decide, by decide⟩, rfl, ⟨_, rfl⟩, _, rfl⟩

/-- A step that sends and one that delivers. -/
theorem witness_ExecFrame :
    (∃ t, exec (.pfm 5 9 0 0) (withFrame [] (master .idle)) = .next t) ∧
    ∃ t, exec (.dner 5 9 1 0) (withFrame [7] (master .idle)) = .next t := ⟨⟨_, rfl⟩, _, rfl⟩

theorem witness_NextAddrCycle :
    isMaster (station 127 127) = true ∧ isMaster (station 0 0) = true ∧ (station 0 0).max_master = 0 := by decide

/-! In every statement about a frame row the row is any one; here a token. -/

theorem isFrame_token : isFrame (.token 5 9 0 0) := rfl

/-- One millisecond before the claim and at it (V44), and a lone station (V85). -/
theorem witness_IdleQuiet :
    isMaster (silent .idle 549) = true ∧ (silent .idle 549).master_state = .idle ∧ NoFlag (silent .idle 549) ∧
    (silent .idle 549).silence_ms < 500 + 10 * 5 ∧ 500 + 10 * 5 ≤ (silent .idle 550).silence_ms ∧
    (5 + 1) % (127 + 1) ≠ 5 ∧ (let s := { station 0 0 with silence_ms := 500 };
      isMaster s = true ∧ s.cfg.tNoToken + s.cfg.tSlot * 0 ≤ s.silence_ms ∧ (0 + 1) % (0 + 1) = 0) :=
  ⟨rfl, rfl, ⟨rfl, rfl, rfl⟩, by decide, by decide, by decide, rfl, by decide, rfl⟩

/-- An empty queue, a spent budget, a request and a PDU that expects no reply. -/
theorem witness_UseToken :
    isMaster (master .useToken) = true ∧ (master .useToken).q = [] ∧
    { queued true (master .useToken) with frame_count := 1 }.max_info_frames.toNat ≤ 1 ∧
    (∀ er, let s := queued er (master .useToken);
      s.q = newEntry 2 [7] er :: [] ∧ s.frame_count.toNat < s.max_info_frames.toNat ∧
        PayloadIs s.cfg (newEntry 2 [7] er) [7] ∧ (newEntry 2 [7] er).expects_reply = er) :=
  ⟨rfl, rfl, by decide, fun _ => ⟨rfl, (by decide : 0 < 1), rfl, rfl⟩⟩

theorem witness_WaitQuiet :
    isMaster (silent .waitForReply 254) = true ∧ NoFlag (silent .waitForReply 254) ∧
    (silent .waitForReply 254).silence_ms < (silent .waitForReply 254).cfg.tReplyTimeout ∧
    (let s := queued true (silent .waitForReply 255);
      s.cfg.tReplyTimeout ≤ s.silence_ms ∧ s.cfg.derTimeoutRetain = false ∧ s.q = newEntry 2 [7] true :: []) ∧
    { Config.default with derTimeoutRetain := true }.derTimeoutRetain = true :=
  ⟨rfl, ⟨rfl, rfl, rfl⟩, by decide, ⟨by decide, rfl, rfl⟩, rfl⟩

theorem witness_TokenRelease :
    isMaster (master .doneWithToken) = true ∧ isMaster (master .passToken) = true ∧
    { master .passToken with next_station := 6 }.next_station ≠ (master .passToken).this_station ∧
    { master .passToken with next_station := 5 }.next_station = (master .passToken).this_station := by decide

theorem witness_NoTokenQuiet :
    isMaster (silent .noToken 20) = true ∧ NoFlag (silent .noToken 20) ∧
    ((silent .noToken 20).cfg.ringExpand = true ∧ (silent .noToken 20).cfg.tUsageTimeout ≤ (silent .noToken 20).silence_ms) ∧
    ((4 : Byte).toNat + 1) % (127 + 1) = 5 ∧ ((6 : Byte).toNat + 1) % (127 + 1) ≠ 5 ∧
    ¬ ((silent .noToken 19).cfg.ringExpand = true ∧
        (silent .noToken 19).cfg.tUsageTimeout ≤ (silent .noToken 19).silence_ms) ∧
    (silent .noToken 19).silence_ms < (silent .noToken 19).cfg.tNoToken ∧
    (let s := { silent .noToken 500 with cfg := { Config.default with ringExpand := false } };
      ¬ (s.cfg.ringExpand = true ∧ s.cfg.tUsageTimeout ≤ s.silence_ms) ∧ s.cfg.tNoToken ≤ s.silence_ms) :=
  ⟨rfl, ⟨rfl, rfl, rfl⟩, by decide, by decide, by decide, by decide, by decide, by decide⟩

/-- The window open, closed by silence, closed by a damaged frame, and the sweep's end. -/
theorem witness_PollWindow :
    isMaster (silent .pollForMaster 19) = true ∧ NoFlag (silent .pollForMaster 19) ∧
    (silent .pollForMaster 19).silence_ms < (silent .pollForMaster 19).cfg.tUsageTimeout ∧
    (silent .pollForMaster 20).cfg.tUsageTimeout ≤ (silent .pollForMaster 20).silence_ms ∧
    { silent .pollForMaster 0 with invalid_frame := true }.invalid_frame = true ∧
    ({ silent .pollForMaster 20 with poll_station := 4 }.poll_station.toNat + 1) % (127 + 1) = 5 ∧
    ({ silent .pollForMaster 20 with poll_station := 127 }.poll_station.toNat + 1) % (127 + 1) = 0 ∧
    isMaster (station 0 127) = true ∧ (127 : Byte).toNat ≤ (station 0 127).max_master.toNat :=
  ⟨rfl, ⟨rfl, rfl, rfl⟩, by decide, by decide, rfl, by decide, by decide, rfl, by decide⟩

/-- Replies of 1 and of `MAX_PDU` octets, none, and those just outside the contract. -/
theorem witness_AnswerDataRequest :
    let s := withFrame [1, 4, 0] (master .answerDataRequest)
    isMaster s = true ∧ s.master_state = .answerDataRequest ∧ s.valid_frame = true ∧
    (master .answerDataRequest).valid_frame = false ∧ InputIs s s.rx_data_length [1, 4, 0] ∧ s.reply_port = [] ∧
    (1 ≤ (List.replicate 501 (0 : Byte)).length ∧ (List.replicate 501 (0 : Byte)).length ≤ s.cfg.maxPdu) ∧
    (List.replicate 0 (0 : Byte)).length = 0 ∧ s.cfg.maxPdu < (List.replicate 502 (0 : Byte)).length :=
  ⟨rfl, rfl, rfl, rfl, rfl, rfl, by rw [List.length_replicate]; exact ⟨by decide, Nat.le_refl _⟩, rfl,
    by rw [List.length_replicate]; exact Nat.le_refl _⟩

theorem witness_FlagCleared :
    (isMaster (station 200 127) = false ∧ (master .idle).master_state = .idle ∧
      (master .waitForReply).master_state = .waitForReply) ∧
    { master .idle with valid_frame_not_for_us := true }.valid_frame = false ∧
    { master .idle with invalid_frame := true }.valid_frame_not_for_us = false := by decide

theorem witness_FrameLeftForIdle :
    (isMaster (master .noToken) = true ∧ anyFlag (withFrame [] (master .noToken)) = true) ∧
    (let s := { master .pollForMaster with valid_frame_not_for_us := true };
      s.valid_frame = false ∧ s.valid_frame_not_for_us = true) ∧
    ((withFrame [] (master .pollForMaster)).valid_frame = true ∧
      ∀ src len h, Instr.rpfm 6 9 0 0 ≠ .rpfm (master .pollForMaster).this_station src len h) :=
  ⟨⟨rfl, rfl⟩, ⟨rfl, rfl⟩, rfl, fun _ _ _ h => by injection h with h; exact absurd h (by decide)⟩

theorem witness_TokenTakenRequestKept :
    let s := withFrame [] (master .idle)
    isMaster s = true ∧ s.master_state = .idle ∧ s.valid_frame = true ∧ 5 = s.this_station := by decide

theorem witness_PollAnsweredReplyAccepted :
    let s := withFrame [] (master .pollForMaster)
    isMaster s = true ∧ s.master_state = .pollForMaster ∧ s.valid_frame = true ∧ 5 = s.this_station ∧
    (withFrame [] (master .idle)).master_state = .idle := by decide

theorem witness_SlaveAnswers :
    let s := withFrame [1, 4] (station 200 127)
    isMaster s = false ∧ s.valid_frame = true ∧ 200 = s.this_station ∧ (200 : Byte) ≠ 255 ∧ InputIs s 2 [1, 4] ∧
    s.reply_port = [] ∧ { s with reply_port := [none] }.reply_port = none :: [] ∧
    { s with reply_port := [some []] }.reply_port = some [] :: [] ∧ ([] : List Byte).length = 0 :=
  ⟨rfl, rfl, rfl, by decide, rfl, rfl, rfl, rfl, rfl⟩

theorem witness_DataDelivered :
    let s := withFrame [7] (master .idle)
    s.master_state = .idle ∧ s.valid_frame = true ∧ InputIs s 1 [7] ∧ 5 = s.this_station ∧
    ¬ (isMaster s = true ∧ s.this_station = 255) := ⟨rfl, rfl, rfl, rfl, by decide⟩

/-- A frame with no data, and one that fills the buffer, with the slot empty and full. -/
theorem witness_DeliverSlot :
    InputIs (station 5 127) 0 [] ∧ InputIs (withFrame [7] (station 5 127)) 1 [7] ∧
    (withFrame [7] (station 5 127)).rp_ready = false ∧ (1 : Half) ≠ 0 ∧
    { withFrame [7] (station 5 127) with rp_ready := true }.rp_ready = true := ⟨rfl, rfl, rfl, by decide, rfl⟩

theorem witness_OtherFramesDropped :
    let s := withFrame [] (master .idle)
    s.master_state = .idle ∧ s.valid_frame = true ∧ isIgnoredType (.testRequest 5 9 0 0) ∧
    (255 : Byte) ≠ s.this_station ∧ ((6 : Byte) ≠ s.this_station ∧ (6 : Byte) ≠ 255) ∧
    isMaster (station 200 127) = false := ⟨rfl, rfl, trivial, by decide, by decide, rfl⟩

/-- V60 and V61. -/
theorem witness_WaitForReplyFrame :
    (let s := waiting goodReply;
      isMaster s = true ∧ s.master_state = .waitForReply ∧ s.valid_frame = true ∧ InputIs s 5 goodReply ∧
      correlate goodReply 2 s.this_station s = .ok (some 0)) ∧
    correlate otherReply 2 1 (waiting otherReply) = .ok none ∧
    ∀ src len h, Instr.dner 255 2 5 0 ≠ .dner (waiting goodReply).this_station src len h :=
  ⟨⟨rfl, rfl, rfl, rfl, rfl⟩, rfl, fun _ _ _ h => by injection h with h; exact absurd h (by decide)⟩

theorem witness_SlaveNeverOriginates :
    isMaster (station 200 127) = false ∧ NoFlag (station 200 127) ∧
    ∃ t, exec (.der 200 9 1 0) { withFrame [7] (station 200 127) with reply_port := [some [1]] } = .next t :=
  ⟨rfl, ⟨rfl, rfl, rfl⟩, _, rfl⟩

theorem witness_UnconfiguredIsSilent :
    let s := { station 255 127 with tx_stream := [7] }
    s.this_station = 255 ∧ s.max_master.toNat ≤ 127 ∧
    (∃ t, runEvent .node s = .next t) ∧ (∃ t, runEvent .portTx s = .next t) ∧ ∃ t, runEvent .reset s = .next t :=
  ⟨rfl, by decide, ⟨_, rfl⟩, ⟨_, rfl⟩, _, rfl⟩

theorem witness_TokenReleasedInOneCycle :
    let s := { master .useToken with agenda := [.node, .node, .node] }
    isMaster s = true ∧ s.master_state = .useToken ∧ s.q = [] ∧ s.agenda = .node :: .node :: .node :: [] ∧
    BitVec.ofNat 8 ((s.this_station.toNat + 1) % (s.max_master.toNat + 1)) ≠ s.this_station :=
  ⟨rfl, rfl, rfl, rfl, by decide⟩

theorem witness_PduRowsCorrelate :
    (let s := waiting goodReply;
      correlating s = true ∧ InputIs s s.rx_data_length goodReply ∧
      (∃ v c rest, goodReply = v :: c :: rest) ∧ (∃ nr a0 a, npduParse goodReply = some nr ∧ nr.apdu = a0 :: a) ∧
      correlate goodReply s.rx_source s.rx_destination s = .ok (some 0)) ∧
    correlate otherReply 2 1 (waiting otherReply) = .ok none ∧
    ¬ isFrame (.apduReject 0) ∧ correlating (station 5 127) = false :=
  ⟨⟨rfl, rfl, ⟨_, _, _, rfl⟩, ⟨_, _, _, rfl, rfl⟩, rfl⟩, rfl, nofun, rfl⟩

/-- The request matches the reply of V60, and not that of V61. -/
theorem witness_CorrelateFirstMatch :
    (∀ e, e ∈ (waiting goodReply).q → e.expects_reply = true → ∃ d, PayloadIs (waiting goodReply).cfg e d) ∧
    correlate goodReply 2 1 (waiting goodReply) = .ok (some 0) ∧
    correlate otherReply 2 1 (waiting otherReply) = .ok none :=
  ⟨fun e he _ => by rw [List.mem_singleton.mp he]; exact ⟨_, rfl⟩, rfl, rfl⟩

/-- A full queue (`QUEUE_CAP = 1`), lengths 0, 1, `MAX_PDU` and one more. -/
theorem witness_QueueEnqueue :
    (let s := { queued true (station 5 127) with cfg := smallest };
      s.cfg.Legal ∧ s.q.length = s.cfg.queueCap ∧ s.cfg.maxPdu < ([1, 2] : List Byte).length) ∧
    (let s := { station 5 127 with cfg := smallest };
      s.q.length ≠ s.cfg.queueCap ∧ 1 ≤ ([1] : List Byte).length ∧ ([1] : List Byte).length ≤ s.cfg.maxPdu) :=
  ⟨⟨witness_ResetInv.1, by decide, by decide⟩, by decide⟩

theorem witness_QueueReadAndPop :
    0 < (queued true (station 5 127)).q.length ∧ (queued true (station 5 127)).q.length ≤ 1 := by decide

theorem witness_RingRealisesQueue :
    let r : Ring := { store := [blankEntry, blankEntry], head := 1, count := 1 }
    r.wf ∧ r.count < r.cap := ⟨⟨by decide, by decide⟩, by decide⟩

theorem witness_SendSpec :
    let s := { station 5 127 with cfg := smallest }
    1 < ({ resetAddress smallest with mac_len := 2 } : BacnetAddress).mac_len.toNat ∧
    (resetAddress smallest).mac_len.toNat ≤ 1 ∧ s.q.length ≠ s.cfg.queueCap ∧ 1 ≤ ([7] : List Byte).length ∧
    ([7] : List Byte).length ≤ s.cfg.maxPdu ∧ s.cfg.maxPdu < ([7, 8] : List Byte).length := by decide

theorem witness_ReceiveSpec :
    (let s := { station 5 127 with rp_ready := true, rp_length := 1, rp_payload := [(0, 7)], receive_left := some 3 };
      s.rp_ready = true ∧ octetsOf s.rp_payload s.cfg.maxPdu s.rp_length.toNat = .ok [7] ∧ s.receive_left = some 3) ∧
    (station 5 127).rp_ready = false ∧ { station 5 127 with receive_left := some 0 }.receive_left = some 0 :=
  ⟨⟨rfl, rfl, rfl⟩, rfl, rfl⟩

/-- V121, V122, V123, at the edges: 254 and 255; 127 and 128; 0 and 1. -/
theorem witness_Accessors :
    acceptsMacAddress 254 State.reset = true ∧ acceptsMacAddress 255 State.reset = false ∧
    acceptsMacAddress 4 (station 0 3) = false ∧ acceptsMacAddress 3 (station 0 3) = true ∧
    acceptsMaxMaster 126 (station 127 127) = false ∧ acceptsMaxMaster 127 (station 127 127) = true ∧
    acceptsMaxMaster 128 (station 200 127) = false ∧ acceptsMaxMaster 0 (station 128 127) = true ∧
    1 ≤ (1 : Byte).toNat := by decide

theorem witness_ConfigWriters :
    (∃ t, runEvent (.setMacAddress 6) (station 5 127) = .next t ∧ t.this_station ≠ (station 5 127).this_station) ∧
    (∃ t, runEvent (.setMaxMaster 5) (station 5 127) = .next t ∧ t.max_master ≠ (station 5 127).max_master) ∧
    (∃ t, runEvent (.setMaxInfoFrames 255) (station 5 127) = .next t ∧
      t.max_info_frames ≠ (station 5 127).max_info_frames) :=
  ⟨⟨_, rfl, by decide⟩, ⟨_, rfl, by decide⟩, _, rfl, by decide⟩

theorem witness_PortSteps :
    { station 5 127 with tx_stream := [7, 8] }.tx_stream = 7 :: [8] ∧ rxReady received = false ∧
    ∃ t, runEvent .rx received = .next t := ⟨rfl, rfl, _, rfl⟩
end

section
/-!
SUPPORT. The state after reset (10_state.md R46) and the invariant there: the obligations ResetValues and ResetInv.
-/

namespace Sys2Proof.Machine

/-! ## The values after reset -/

theorem resetState_doReset (s : State) : ResetState (doReset s) :=
  ⟨rfl, rfl, rfl, rfl, rfl, rfl, ⟨rfl, rfl, rfl⟩, rfl, rfl, rfl, rfl, rfl, rfl, rfl, rfl, rfl, rfl⟩

/-- A slave with no flag up has nothing to do, whatever frame is left in the RX registers (44_slave_fsm.md R297). -/
theorem nodeStep_of_slave_quiet {s : State} (hs : isMaster s = false) (hf : NoFlag s) :
    nodeStep s = .next { s with more_work := false } := by
  obtain ⟨r, hr⟩ := exec_frame (fetch s) (isFrame_fetch s)
  rw [nodeStep, hr, nodeReact_of_slave r hs, slaveStep, byFlag_quiet hf, nodeDone]

/-- Settles O7: RESET writes every register, so what holds after it holds of the state a run starts in, which RESET
leaves as it is. -/
theorem resetValues : Obligations.ResetValues := by
  refine ⟨resetState_doReset (resetWith Config.default), fun s => ⟨doReset s, rfl, ?_⟩⟩
  have hreset := resetState_doReset s
  exact ⟨hreset, rfl, rfl, nodeStep_of_slave_quiet rfl hreset.no_flag⟩

/-! ## The invariant after reset -/

/-- The default parameters meet the constraints of 00_scope.md R7. -/
theorem legal_default : Config.default.Legal := by constructor <;> decide

/-- An address of `MAX_MAC_LEN` octets has that many, because there is at least one. -/
theorem length_macOctets {c : Config} (h : c.Legal) (first : Byte) :
    (macOctets c first).rest.length + 1 = c.maxMacLen := by
  have := h.maxMacLen_pos
  simp only [macOctets, List.length_replicate]
  omega

/-- RESET establishes every part of the invariant but the parameters and the host's own contract, which it leaves. -/
theorem inv_doReset {s : State} (hc : s.cfg.Legal) (hh : HostInv s) : Inv (doReset s) where
  config := {
    legal := hc
    max_master_le := (by decide : Config.resetMaxMaster.toNat ≤ 127)
    master_in_range :=
      (by decide :
        Config.resetThisStation.toNat ≤ 127 → Config.resetThisStation.toNat ≤ Config.resetMaxMaster.toNat)
    info_frames_pos := (by decide : 1 ≤ Config.resetMaxInfoFrames.toNat)
    silence_le := Nat.zero_le _ }
  handoff := ⟨nofun, nofun, nofun, nofun, nofun⟩
  assembly := ⟨nofun, nofun, nofun, nofun, nofun, nofun, nofun⟩
  node := ⟨fun _ => rfl, nofun, nofun⟩
  queue := ⟨Nat.zero_le _, hc.queueCap_pos, nofun⟩
  slot := ⟨nofun, nofun, nofun, length_macOctets hc 0, length_macOctets hc 0⟩
  arrays := ⟨Memory.sound_nil _, Memory.sound_nil _, Memory.sound_nil _⟩
  host := ⟨hh.replies, hh.wait_le⟩

/-- Settles O8: the state after reset is what RESET makes of it. -/
theorem resetInv : Obligations.ResetInv := by
  have h : ∀ c : Config, c.Legal → Inv (resetWith c) := fun c hc =>
    inv_doReset (s := resetWith c) hc ⟨nofun, nofun⟩
  exact ⟨h _ legal_default, h⟩

end Sys2Proof.Machine
end

section
/-!
SUPPORT. A step of RX: what it leaves alone (the obligation RxFrame) and that it keeps the invariant.
-/

namespace Sys2Proof.Machine

/-! ## The frame of RX -/

/-- `t` follows from `s` by writes RX may make while it takes an octet: to the RX registers, to the octet of
`input_buffer` at `rx_index` in state DATA, and to the flags, which it only raises (10_state.md R21, 42_receive_fsm.md R209 e). -/
structure RxWrites (s t : State) : Prop where
  input_buffer : ∀ a, s.rx_state ≠ .data ∨ a ≠ s.rx_index.toNat ∨ s.cfg.maxPdu ≤ a →
    t.input_buffer.read a = s.input_buffer.read a
  valid_frame : s.valid_frame = true → t.valid_frame = true
  valid_frame_not_for_us : s.valid_frame_not_for_us = true → t.valid_frame_not_for_us = true
  invalid_frame : s.invalid_frame = true → t.invalid_frame = true
  rest : { t with
    rx_state := s.rx_state, rx_index := s.rx_index
    rx_frame_type := s.rx_frame_type, rx_destination := s.rx_destination, rx_source := s.rx_source
    rx_data_length := s.rx_data_length, rx_header_crc := s.rx_header_crc, rx_data_crc := s.rx_data_crc
    input_buffer := s.input_buffer, valid_frame := s.valid_frame
    valid_frame_not_for_us := s.valid_frame_not_for_us, invalid_frame := s.invalid_frame } = s

namespace RxWrites

variable {s t : State}

theorem refl (s : State) : RxWrites s s := ⟨fun _ _ => rfl, id, id, id, rfl⟩

theorem discardFrame (h : RxWrites s t) : RxWrites s (discardFrame t) :=
  ⟨h.input_buffer, h.valid_frame, h.valid_frame_not_for_us, fun _ => rfl, h.rest⟩

theorem completeFrame (h : RxWrites s t) : RxWrites s (completeFrame t) := by
  unfold Machine.completeFrame
  rcases classify_cases { t with rx_state := .done } with ⟨-, hc⟩ | ⟨-, hc⟩ <;> rw [hc]
  · exact ⟨h.input_buffer, fun _ => rfl, h.valid_frame_not_for_us, h.invalid_frame, h.rest⟩
  · exact ⟨h.input_buffer, h.valid_frame, fun _ => rfl, h.invalid_frame, h.rest⟩

end RxWrites

theorem rxPreamble1_writes (b : Byte) (s : State) : RxWrites s (rxPreamble1 b s) := by
  unfold rxPreamble1
  split
  · exact ⟨fun _ _ => rfl, id, id, id, rfl⟩
  · exact .refl s

theorem rxPreamble2_writes (b : Byte) (s : State) : RxWrites s (rxPreamble2 b s) := by
  unfold rxPreamble2
  split
  · exact ⟨fun _ _ => rfl, id, id, id, rfl⟩
  · split
    · exact .refl s
    · exact (RxWrites.refl s).discardFrame

theorem rxHeader_writes (b : Byte) (s : State) : RxWrites s (rxHeader b s) := by
  rw [rxHeader_eq, storeHeaderOctet_eq]
  exact ⟨fun _ _ => rfl, id, id, id, rfl⟩

theorem rxHeaderCrcCheck_writes (b : Byte) (s : State) : RxWrites s (rxHeaderCrcCheck b s) := by
  have hcrc : RxWrites s { s with rx_header_crc := crc8Update b s.rx_header_crc } :=
    ⟨fun _ _ => rfl, id, id, id, rfl⟩
  rcases rxHeaderCrcCheck_cases b s with ⟨-, h⟩ | ⟨-, -, h⟩ | ⟨-, -, h⟩ <;> rw [h]
  · exact hcrc.discardFrame
  · exact hcrc.completeFrame
  · exact ⟨fun _ _ => rfl, id, id, id, rfl⟩

theorem rxData_writes (b : Byte) {s : State} (hs : s.rx_state = .data) : RxWrites s (rxData b s) := by
  rw [rxData_eq]
  refine ⟨fun a ha => ?_, id, id, id, rfl⟩
  dsimp only
  split
  · next hroom =>
    have hne : a ≠ s.rx_index.toNat := by
      rcases ha with ha | ha | ha
      · exact absurd hs ha
      · exact ha
      · omega
    exact Memory.read_write_other _ b hne
  · rfl

theorem rxDataCrcCheck_writes (b : Byte) (s : State) : RxWrites s (rxDataCrcCheck b s) := by
  have hcrc : RxWrites s { s with rx_data_crc := crc16Update b s.rx_data_crc, rx_index := 2 } :=
    ⟨fun _ _ => rfl, id, id, id, rfl⟩
  rcases rxDataCrcCheck_cases b s with ⟨-, h⟩ | ⟨-, -, h⟩ | ⟨-, -, h⟩ <;> rw [h]
  · exact ⟨fun _ _ => rfl, id, id, id, rfl⟩
  · exact hcrc.completeFrame
  · exact hcrc.discardFrame

/-- Whatever the state, an octet makes RX write its own zone only. -/
theorem rxOctet_writes (b : Byte) (s : State) : RxWrites s (rxOctet b s) := by
  unfold rxOctet
  split
  case h_1 => exact .refl s
  case h_2 => exact rxPreamble1_writes b s
  case h_3 => exact rxPreamble2_writes b s
  case h_4 => exact rxHeader_writes b s
  case h_5 => exact rxHeaderCrcCheck_writes b s
  case h_6 hs => exact rxData_writes b hs
  case h_7 => exact rxDataCrcCheck_writes b s
  case h_8 => exact .refl s

/-- A step of RX sets the silence counter and takes at most the first octet of `rx_stream`; the rest are `RxWrites`. -/
theorem rxStep_writes (s : State) :
    ∃ ms rest, (rest = s.rx_stream ∨ ∃ b, s.rx_stream = b :: rest) ∧
      RxWrites { s with silence_ms := ms, rx_stream := rest } (rxStep s) := by
  rcases rxStep_cases s with ⟨-, h⟩ | ⟨-, h⟩ | ⟨-, -, b, rest, hb, h⟩ | h <;> rw [h]
  · exact ⟨s.silence_ms, s.rx_stream, .inl rfl, fun _ _ => rfl, id, id, id, rfl⟩
  · exact ⟨0, s.rx_stream, .inl rfl, (RxWrites.refl _).discardFrame⟩
  · exact ⟨0, rest, .inr ⟨b, hb⟩, rxOctet_writes b _⟩
  · exact ⟨s.silence_ms, s.rx_stream, .inl rfl, .refl s⟩

/-- Settles O24: what RX writes, put back to its value before the step, gives the state before the step. -/
theorem rxFrame : Obligations.RxFrame := by
  intro s t ht
  obtain rfl : rxStep s = t := by injection ht
  obtain ⟨ms, rest, hstream, hw⟩ := rxStep_writes s
  have hrest : (rxStep s).rx_stream = rest := (congrArg State.rx_stream hw.rest :)
  rw [← hrest] at hstream
  exact ⟨hw.input_buffer, hw.valid_frame, hw.valid_frame_not_for_us, hw.invalid_frame, hstream,
    congrArg (fun u : State => { u with silence_ms := s.silence_ms, rx_stream := s.rx_stream }) hw.rest⟩

/-! ## RX keeps the invariant -/

/-- The parts of the invariant that speak of what RX writes. -/
structure RxInv (s : State) : Prop where
  handoff : HandoffInv s
  assembly : AssemblyInv s
  input : s.input_buffer.Sound s.cfg.maxPdu

/-- With every flag 0 the handoff asks for nothing. -/
theorem HandoffInv.of_noFlag {s : State} (h : NoFlag s) : HandoffInv s := by
  obtain ⟨hv, hn, hi⟩ := h
  constructor <;> simp [hv, hn, hi]

/-- Outside HEADER, DATA and DATA_CRC_CHECK, and with no valid frame, nothing is asked of `rx_index` and the buffer. -/
theorem AssemblyInv.of_rx_state {s : State} (hv : s.valid_frame = false) (header : s.rx_state ≠ .header)
    (data : s.rx_state ≠ .data) (crc : s.rx_state ≠ .dataCrcCheck) : AssemblyInv s := by
  constructor <;> simp [hv, header, data, crc]

section
variable {s : State} (hv : s.valid_frame = false)
include hv

theorem AssemblyInv.of_header (hs : s.rx_state = .header) (index : s.rx_index.toNat ≤ 4) : AssemblyInv s := by
  constructor <;> simp [hv, hs, index]

theorem AssemblyInv.of_data (hs : s.rx_state = .data) (index : s.rx_index.toNat < s.rx_data_length.toNat)
    (written : s.input_buffer.Written (min s.rx_index.toNat s.cfg.maxPdu)) : AssemblyInv s := by
  constructor <;> simp [hv, hs, index, written]

theorem AssemblyInv.of_dataCrcCheck (hs : s.rx_state = .dataCrcCheck) (index : s.rx_index.toNat ≤ 1)
    (written : s.input_buffer.Written (min s.rx_data_length.toNat s.cfg.maxPdu)) : AssemblyInv s := by
  constructor <;> simp [hv, hs, index, written]

end

/-- While RX takes octets no flag is up (10_state.md R45 item 2). -/
theorem noFlag_of_rxReady {s : State} (h : HandoffInv s) (hr : rxReady s = true) : NoFlag s := by
  simp only [rxReady, Bool.and_eq_true, bne_iff_ne, ne_eq] at hr
  obtain ⟨hidle, hdone⟩ := hr
  exact ⟨by simpa using mt h.valid_done hdone, by simpa using mt h.not_for_us_done hdone,
    by simpa using mt h.invalid_idle hidle⟩

theorem noFlag_of_rearmEnabled {s : State} (h : rearmEnabled s = true) : NoFlag s := by
  simpa [rearmEnabled, anyFlag, NoFlag, and_assoc] using (Bool.and_eq_true_iff.mp h).2

/-- The other parts of the invariant hold after RX has written because it leaves their elements alone; no flag was up,
so no request was being answered. -/
theorem RxInv.inv {s t : State} (hx : RxInv t) (h : Inv s) (hn : NoFlag s) (hw : RxWrites s t) : Inv t where
  config := h.config.congr (congrArg State.cfg hw.rest :) (congrArg State.this_station hw.rest :)
    (congrArg State.max_master hw.rest :) (congrArg State.max_info_frames hw.rest :)
    ((congrArg State.silence_ms hw.rest :).trans_le h.config.silence_le)
  handoff := hx.handoff
  assembly := hx.assembly
  node := by
    have hms : t.master_state = s.master_state := (congrArg State.master_state hw.rest :)
    have hmaster : isMaster t = isMaster s := (congrArg isMaster hw.rest :)
    refine .of_not_answering (by rw [hms, hmaster]; exact h.node.slave_idle) fun ha => ?_
    rw [hms] at ha
    exact absurd (h.node.answering_valid ha) (by simp [hn.1])
  queue := h.queue.congr (congrArg State.cfg hw.rest :) (congrArg State.q hw.rest :) (congrArg State.q_head hw.rest :)
  slot := h.slot.congr (congrArg State.cfg hw.rest :) (congrArg State.rp_ready hw.rest :).symm.trans
    (congrArg State.rp_length hw.rest :) (congrArg State.rp_payload hw.rest :) (congrArg State.rp_address hw.rest :)
  arrays := by
    have hcfg : t.cfg = s.cfg := (congrArg State.cfg hw.rest :)
    have hout : t.output_buffer = s.output_buffer := (congrArg State.output_buffer hw.rest :)
    have hpayload : t.rp_payload = s.rp_payload := (congrArg State.rp_payload hw.rest :)
    exact ⟨hx.input, by rw [hcfg, hout]; exact h.arrays.output, by rw [hcfg, hpayload]; exact h.arrays.packet⟩
  host := h.host.congr (congrArg State.cfg hw.rest :)
    (fun _ hr => by rwa [← show t.reply_port = s.reply_port from (congrArg State.reply_port hw.rest :)])
    (congrArg State.receive_left hw.rest :)

section
variable {s : State}

theorem rxInv_discardFrame (hn : NoFlag s) (hi : s.input_buffer.Sound s.cfg.maxPdu) : RxInv (discardFrame s) := by
  obtain ⟨hv, hnot, -⟩ := hn
  exact ⟨⟨by simp [hv], by simp [hnot], by simp [hv], by simp [hnot], fun _ => rfl⟩,
    .of_rx_state hv nofun nofun nofun, hi⟩

theorem rxInv_completeFrame (hn : NoFlag s) (hi : s.input_buffer.Sound s.cfg.maxPdu)
    (fits : s.rx_data_length.toNat ≤ s.cfg.maxPdu) (written : s.input_buffer.Written s.rx_data_length.toNat) :
    RxInv (completeFrame s) := by
  obtain ⟨hv, hnot, hinv⟩ := hn
  unfold completeFrame
  rcases classify_cases { s with rx_state := .done } with ⟨-, hc⟩ | ⟨-, hc⟩ <;> rw [hc]
  · exact ⟨⟨fun _ => ⟨hnot, hinv⟩, fun _ => hinv, fun _ => rfl, fun _ => rfl, by simp [hinv]⟩,
      ⟨nofun, nofun, nofun, nofun, nofun, fun _ => fits, fun _ => written⟩, hi⟩
  · exact ⟨⟨by simp [hv], fun _ => hinv, by simp [hv], fun _ => rfl, by simp [hinv]⟩,
      .of_rx_state hv nofun nofun nofun, hi⟩

variable (b : Byte)

theorem rxInv_rxPreamble1 (h : RxInv s) (hn : NoFlag s) : RxInv (rxPreamble1 b s) := by
  unfold rxPreamble1
  split
  · exact ⟨.of_noFlag hn, .of_rx_state hn.1 nofun nofun nofun, h.input⟩
  · exact h

theorem rxInv_rxPreamble2 (h : RxInv s) (hn : NoFlag s) : RxInv (rxPreamble2 b s) := by
  unfold rxPreamble2
  split
  · exact ⟨.of_noFlag hn, .of_header hn.1 rfl (Nat.zero_le 4), h.input⟩
  · split
    · exact h
    · exact rxInv_discardFrame hn h.input

theorem rxInv_rxHeader (h : RxInv s) (hn : NoFlag s) (hs : s.rx_state = .header) : RxInv (rxHeader b s) := by
  have hindex := h.assembly.header_index hs
  rw [rxHeader_eq, storeHeaderOctet_eq]
  refine ⟨.of_noFlag hn, ?_, h.input⟩
  by_cases hlast : s.rx_index + 1 = 5
  · rw [if_pos hlast]
    exact .of_rx_state hn.1 nofun nofun nofun
  · rw [if_neg hlast]
    have hnext : (s.rx_index + 1).toNat ≤ 4 := by bv_omega
    exact .of_header hn.1 hs hnext

theorem rxInv_rxHeaderCrcCheck (h : RxInv s) (hn : NoFlag s) : RxInv (rxHeaderCrcCheck b s) := by
  rcases rxHeaderCrcCheck_cases b s with ⟨-, he⟩ | ⟨-, hlen, he⟩ | ⟨-, hlen, he⟩ <;> rw [he]
  · exact rxInv_discardFrame hn h.input
  · exact rxInv_completeFrame hn h.input (by simp [hlen]) (by simp [hlen, Memory.written_zero])
  · have hpos : 0 < s.rx_data_length.toNat := by bv_omega
    exact ⟨.of_noFlag hn, .of_data hn.1 rfl hpos (by simp [Memory.written_zero]), h.input⟩

/-- The octet just stored extends what has been written, up to the end of the buffer. -/
theorem written_rxData_input (h : s.input_buffer.Written (min s.rx_index.toNat s.cfg.maxPdu)) :
    (if s.rx_index.toNat < s.cfg.maxPdu then s.input_buffer.write s.rx_index.toNat b else s.input_buffer).Written
      (min (s.rx_index.toNat + 1) s.cfg.maxPdu) := by
  split
  · next hroom =>
    rw [Nat.min_eq_left (by omega)] at h
    exact Memory.written_mono (Memory.written_write h b) (by omega)
  · exact Memory.written_mono h (by omega)

theorem rxInv_rxData (h : RxInv s) (hn : NoFlag s) (hs : s.rx_state = .data) : RxInv (rxData b s) := by
  have hindex := h.assembly.data_index hs
  have hnext : (s.rx_index + 1).toNat = s.rx_index.toNat + 1 := by bv_omega
  have hwritten := written_rxData_input b (h.assembly.data_written hs)
  rw [rxData_eq]
  refine ⟨.of_noFlag hn, ?_, ?_⟩
  · by_cases hlast : s.rx_index + 1 = s.rx_data_length
    · rw [if_pos hlast, if_pos hlast]
      rw [← hnext, hlast] at hwritten
      exact .of_dataCrcCheck hn.1 rfl (Nat.zero_le 1) hwritten
    · rw [if_neg hlast, if_neg hlast]
      have hlt : (s.rx_index + 1).toNat < s.rx_data_length.toNat := by bv_omega
      rw [← hnext] at hwritten
      exact .of_data hn.1 hs hlt hwritten
  · dsimp only
    split
    · next hroom => exact Memory.sound_write h.input hroom b
    · exact h.input

theorem rxInv_rxDataCrcCheck (h : RxInv s) (hn : NoFlag s) (hs : s.rx_state = .dataCrcCheck) :
    RxInv (rxDataCrcCheck b s) := by
  have hwritten := h.assembly.crc_written hs
  rcases rxDataCrcCheck_cases b s with ⟨-, he⟩ | ⟨-, ⟨-, hfits⟩, he⟩ | ⟨-, -, he⟩ <;> rw [he]
  · exact ⟨.of_noFlag hn, .of_dataCrcCheck hn.1 hs (Nat.le_refl 1) hwritten, h.input⟩
  · rw [Nat.min_eq_left hfits] at hwritten
    exact rxInv_completeFrame hn h.input hfits hwritten
  · exact rxInv_discardFrame hn h.input

end

/-- An octet taken with every flag 0 keeps the invariant, in every state of RX. -/
theorem inv_rxOctet {s : State} (b : Byte) (h : Inv s) (hn : NoFlag s) : Inv (rxOctet b s) := by
  have hx : RxInv s := ⟨h.handoff, h.assembly, h.arrays.input⟩
  refine RxInv.inv ?_ h hn (rxOctet_writes b s)
  unfold rxOctet
  split
  case h_1 => exact hx
  case h_2 => exact rxInv_rxPreamble1 b hx hn
  case h_3 => exact rxInv_rxPreamble2 b hx hn
  case h_4 hs => exact rxInv_rxHeader b hx hn hs
  case h_5 => exact rxInv_rxHeaderCrcCheck b hx hn
  case h_6 hs => exact rxInv_rxData b hx hn hs
  case h_7 hs => exact rxInv_rxDataCrcCheck b hx hn hs
  case h_8 => exact hx

/-- The elements no part of the invariant reads, and a silence counter set to 0, make no difference to it. -/
theorem Inv.of_unread {s t : State} (h : Inv s) (silence_ms : t.silence_ms = s.silence_ms ∨ t.silence_ms = 0)
    (rest : { t with
      silence_ms := s.silence_ms, rx_destination := s.rx_destination, rx_source := s.rx_source
      rx_header_crc := s.rx_header_crc, rx_data_crc := s.rx_data_crc, next_station := s.next_station
      poll_station := s.poll_station, frame_count := s.frame_count, rx_stream := s.rx_stream
      tx_stream := s.tx_stream, more_work := s.more_work, host_result := s.host_result
      reply_request := s.reply_request, agenda := s.agenda, turn := s.turn, rx_wait := s.rx_wait
      node_wait := s.node_wait, asked := s.asked } = s) : Inv t := by
  have hcfg : t.cfg = s.cfg := (congrArg State.cfg rest :)
  have hvalid : t.valid_frame = s.valid_frame := (congrArg State.valid_frame rest :)
  have hstate : t.rx_state = s.rx_state := (congrArg State.rx_state rest :)
  have hinput : t.input_buffer = s.input_buffer := (congrArg State.input_buffer rest :)
  have hpayload : t.rp_payload = s.rp_payload := (congrArg State.rp_payload rest :)
  have hready : t.rp_ready = s.rp_ready := (congrArg State.rp_ready rest :)
  have hport : t.reply_port = s.reply_port := (congrArg State.reply_port rest :)
  have hstation : t.this_station = s.this_station := (congrArg State.this_station rest :)
  have hmax : t.max_master = s.max_master := (congrArg State.max_master rest :)
  exact {
    config := h.config.congr hcfg hstation hmax (congrArg State.max_info_frames rest :) (by
      have := h.config.silence_le
      rcases silence_ms with hms | hms <;> omega)
    handoff := h.handoff.congr hvalid (congrArg State.valid_frame_not_for_us rest :)
      (congrArg State.invalid_frame rest :) hstate
    assembly := h.assembly.congr hcfg hstate (congrArg State.rx_index rest :) (congrArg State.rx_data_length rest :)
      hinput hvalid.symm.trans
    node := h.node.congr hstation hmax (congrArg State.master_state rest :) hvalid
      (congrArg State.rx_frame_type rest :)
    queue := h.queue.congr hcfg (congrArg State.q rest :) (congrArg State.q_head rest :)
    slot := h.slot.congr hcfg hready.symm.trans (congrArg State.rp_length rest :) hpayload
      (congrArg State.rp_address rest :)
    arrays := h.arrays.congr hcfg hinput (congrArg State.output_buffer rest :) hpayload
    host := h.host.congr hcfg (fun _ hr => hport ▸ hr) (congrArg State.receive_left rest :) }

/-- A step of RX keeps the invariant. -/
theorem inv_rxStep {s : State} (h : Inv s) : Inv (rxStep s) := by
  rcases rxStep_cases s with ⟨hre, he⟩ | ⟨hab, he⟩ | ⟨hready, -, b, rest, -, he⟩ | he <;> rw [he]
  · have hn := noFlag_of_rearmEnabled hre
    refine RxInv.inv ⟨.of_noFlag hn, .of_rx_state hn.1 nofun nofun nofun, h.arrays.input⟩ h hn ?_
    exact ⟨fun _ _ => rfl, id, id, id, rfl⟩
  · simp only [abortEnabled, Bool.and_eq_true] at hab
    obtain ⟨⟨hready, -⟩, -⟩ := hab
    have hn := noFlag_of_rxReady h.handoff hready
    have hdiscard : Inv (discardFrame s) :=
      (rxInv_discardFrame hn h.arrays.input).inv h hn (RxWrites.refl s).discardFrame
    exact hdiscard.of_unread (.inr rfl) rfl
  · have hn := noFlag_of_rxReady h.handoff hready
    exact inv_rxOctet b (h.of_unread (.inr rfl) rfl) hn
  · exact h

end Sys2Proof.Machine
end

section
/-!
SUPPORT. A step of NODE: what the rules of 43_master_fsm.md and 44_slave_fsm.md can do to the state, said once for each
rule, and the obligation ExecFrame, which follows.
-/

namespace Sys2Proof.Machine

/-! ## What a result ensures -/

/-- If `r` answers with a next state, that state meets `P`. -/
def Ensures (r : Result) (P : State → Prop) : Prop := ∀ t, r = .next t → P t

section
variable {P Q : State → Prop} {s : State}

theorem ensures_next (h : P s) : Ensures (.next s) P := by
  intro t ht
  obtain rfl := Host.Outcome.next.inj ht
  exact h

theorem ensures_fault (f : Fault) : Ensures (.fault f) P := by
  intro t ht
  simp at ht

theorem ensures_nodeDone {more : Bool} (h : P { s with more_work := more }) : Ensures (nodeDone more s) P :=
  ensures_next h

theorem Ensures.mono {r : Result} (h : Ensures r P) (hPQ : ∀ t, P t → Q t) : Ensures r Q :=
  fun t ht => hPQ t (h t ht)

theorem ensures_andThen {r : Result} {k : State → Result} (hr : Ensures r Q) (hk : ∀ u, Q u → Ensures (k u) P) :
    Ensures (andThen r k) P := by
  intro t ht
  obtain ⟨u, hu, hkt⟩ := andThen_eq_next.mp ht
  exact hk u (hr u hu) t hkt

theorem ensures_withOctets {m : Memory} {cap n : Nat} {k : List Byte → Result} (h : ∀ bs, Ensures (k bs) P) :
    Ensures (withOctets m cap n k) P := by
  intro t ht
  obtain ⟨bs, -, hk⟩ := withOctets_eq_next.mp ht
  exact h bs t hk

theorem ensures_byFlag {v n i q : State → Result} (hv : s.valid_frame = true → Ensures (v s) P)
    (hn : Ensures (n s) P) (hi : Ensures (i s) P) (hq : Ensures (q s) P) : Ensures (byFlag v n i q s) P := by
  rcases byFlag_cases v n i q s with ⟨h, e⟩ | ⟨-, -, e⟩ | ⟨-, -, -, e⟩ | ⟨-, e⟩ <;> rw [e]
  · exact hv h
  · exact hn
  · exact hi
  · exact hq

end

/-! ## The effect of a NODE step -/

/-- `t` differs from `u` in NODE's own registers and `more_work` only, and in flags that were cleared.
Where no flag was touched this is `⟨id, id, id, rfl⟩`. -/
structure NodeControl (u t : State) : Prop where
  valid_frame : t.valid_frame = true → u.valid_frame = true
  valid_frame_not_for_us : t.valid_frame_not_for_us = true → u.valid_frame_not_for_us = true
  invalid_frame : t.invalid_frame = true → u.invalid_frame = true
  rest : t = { u with
    valid_frame := t.valid_frame, valid_frame_not_for_us := t.valid_frame_not_for_us
    invalid_frame := t.invalid_frame, master_state := t.master_state, next_station := t.next_station
    poll_station := t.poll_station, frame_count := t.frame_count, more_work := t.more_work }

/-- The frame `f` was handed to the port, or nothing (`f = []`): 40_frame_codec.md R158. -/
def Sent (f : List Byte) (s t : State) : Prop :=
  f.length ≤ s.cfg.outCap ∧ t.tx_stream = s.tx_stream ++ f ∧ t.output_buffer = s.output_buffer.writeSeq 0 f ∧
    (f ≠ [] → t.silence_ms = 0)

/-- The Received Packet Slot is as before. -/
def SlotKept (s t : State) : Prop :=
  t.rp_ready = s.rp_ready ∧ t.rp_address = s.rp_address ∧ t.rp_length = s.rp_length ∧ t.rp_payload = s.rp_payload

/-- A frame with data that fits the slot was put into the empty slot: 47_external_interfaces.md R364. -/
def SlotFilled (s t : State) : Prop :=
  s.rp_ready = false ∧ t.rp_ready = true ∧ ∃ (src : Byte) (data : List Byte),
    1 ≤ data.length ∧ data.length ≤ s.cfg.maxPdu ∧ t.rp_address = fillAddress s.cfg src ∧
    t.rp_payload = s.rp_payload.writeSeq 0 data ∧ t.rp_length.toNat = data.length

/-- The Outgoing PDU Queue is as before. -/
def QueueKept (s t : State) : Prop := t.q = s.q ∧ t.q_head = s.q_head

/-- Everything a step of NODE can do to the state, zone by zone: the strongest form of the frame of an instruction. -/
structure NodeEffect (s t : State) : Prop where
  sent : ∃ f, Sent f s t
  silence_ms : t.silence_ms = s.silence_ms ∨ t.silence_ms = 0
  slot : SlotKept s t ∨ SlotFilled s t
  queue : QueueKept s t ∨ ∃ k, QueueKept (qPopElement k s) t
  valid_frame : t.valid_frame = true → s.valid_frame = true
  valid_frame_not_for_us : t.valid_frame_not_for_us = true → s.valid_frame_not_for_us = true
  invalid_frame : t.invalid_frame = true → s.invalid_frame = true
  replies : ∀ r, r ∈ t.reply_port → r ∈ s.reply_port
  rest : { t with
    silence_ms := s.silence_ms, valid_frame := s.valid_frame
    valid_frame_not_for_us := s.valid_frame_not_for_us, invalid_frame := s.invalid_frame
    master_state := s.master_state, next_station := s.next_station, poll_station := s.poll_station
    frame_count := s.frame_count, output_buffer := s.output_buffer, q := s.q, q_head := s.q_head
    rp_ready := s.rp_ready, rp_address := s.rp_address, rp_payload := s.rp_payload, rp_length := s.rp_length
    tx_stream := s.tx_stream, more_work := s.more_work, reply_request := s.reply_request
    reply_port := s.reply_port, asked := s.asked } = s

namespace NodeEffect

variable {s u t : State}

theorem refl (s : State) : NodeEffect s s where
  sent := ⟨[], Nat.zero_le _, (List.append_nil _).symm, rfl, fun h => absurd rfl h⟩
  silence_ms := .inl rfl
  slot := .inl ⟨rfl, rfl, rfl, rfl⟩
  queue := .inl ⟨rfl, rfl⟩
  valid_frame := id
  valid_frame_not_for_us := id
  invalid_frame := id
  replies _ := id
  rest := rfl

theorem control (h : NodeEffect s u) (hc : NodeControl u t) : NodeEffect s t where
  sent := by rw [hc.rest]; exact h.sent
  silence_ms := by rw [hc.rest]; exact h.silence_ms
  slot := by rw [hc.rest]; exact h.slot
  queue := by rw [hc.rest]; exact h.queue
  valid_frame ht := h.valid_frame (hc.valid_frame ht)
  valid_frame_not_for_us ht := h.valid_frame_not_for_us (hc.valid_frame_not_for_us ht)
  invalid_frame ht := h.invalid_frame (hc.invalid_frame ht)
  replies := by rw [hc.rest]; exact h.replies
  rest := by rw [hc.rest]; exact h.rest

/-- `SILENCE_RESET` may come on top of anything. -/
theorem silenceReset (h : NodeEffect s u) : NodeEffect s (silenceReset u) :=
  { h with
    sent := by
      obtain ⟨f, hlen, htx, hout, -⟩ := h.sent
      exact ⟨f, hlen, htx, hout, fun _ => rfl⟩
    silence_ms := .inr rfl }

theorem transmit (h : NodeEffect s u) (htx : u.tx_stream = s.tx_stream) (hout : u.output_buffer = s.output_buffer)
    (ft dst src : Byte) (data : List Byte) : NodeEffect s (transmit ft dst src data u) := by
  have hcfg : u.cfg = s.cfg := (congrArg State.cfg h.rest :)
  have hlen := length_transmitFrame_le ft dst src data u
  rw [transmit_eq]
  exact { h with
    sent := by
      refine ⟨transmitFrame ft dst src data u, hcfg ▸ hlen, by rw [htx], by rw [hout], fun hf => ?_⟩
      exact if_pos (List.length_pos_iff.mpr hf)
    silence_ms := by
      dsimp only
      split
      · exact .inr rfl
      · exact h.silence_ms }

theorem qPopElement (h : NodeEffect s u) (hq : QueueKept s u) (k : Nat) : NodeEffect s (qPopElement k u) := by
  obtain ⟨hq, hhead⟩ := hq
  have hcfg : u.cfg = s.cfg := (congrArg State.cfg h.rest :)
  have hnext : nextHead k u = nextHead k s := by unfold nextHead qCount; rw [hq, hhead, hcfg]
  exact { h with queue := .inr ⟨k, congrArg (List.eraseIdx · k) hq, hnext⟩ }

theorem buildReply (h : NodeEffect s u) (src : Byte) (data : List Byte) :
    NodeEffect s (buildReply src data u).2 := by
  rcases buildReply_cases src data u with ⟨r, rest, hport, he⟩ | ⟨-, he⟩ <;> rw [he]
  · exact { h with replies := fun x hx => h.replies x (by rw [hport]; exact List.mem_cons_of_mem r hx) }
  · exact { h with }

end NodeEffect

theorem buildReply_keeps (src : Byte) (data : List Byte) (s : State) :
    (buildReply src data s).2.tx_stream = s.tx_stream ∧ (buildReply src data s).2.output_buffer = s.output_buffer ∧
      (buildReply src data s).2.master_state = s.master_state := by
  rcases buildReply_cases src data s with ⟨r, rest, -, he⟩ | ⟨-, he⟩ <;> rw [he] <;> exact ⟨rfl, rfl, rfl⟩

/-! ## Rules that leave `master_state` alone -/

/-- The step leaves `master_state` alone: every rule of a slave, and a master's rules that drop or deliver. -/
structure NodeStay (s t : State) : Prop where
  effect : NodeEffect s t
  master_state : t.master_state = s.master_state

theorem NodeStay.refl (s : State) : NodeStay s s := ⟨.refl s, rfl⟩

section
variable {s u : State}

theorem nodeDone_stays (h : NodeStay s u) (more : Bool) : Ensures (nodeDone more u) (NodeStay s) :=
  ensures_nodeDone ⟨h.effect.control ⟨id, id, id, rfl⟩, h.master_state⟩

theorem dropFrame_stays (h : NodeStay s u) : Ensures (dropFrame u) (NodeStay s) :=
  nodeDone_stays (u := clearValid u) ⟨h.effect.control ⟨nofun, id, id, rfl⟩, h.master_state⟩ false

theorem dropNotForUs_stays (s : State) : Ensures (dropNotForUs s) (NodeStay s) :=
  nodeDone_stays (u := clearNotForUs s) ⟨(NodeEffect.refl s).control ⟨id, nofun, id, rfl⟩, rfl⟩ false

theorem dropInvalid_stays (s : State) : Ensures (dropInvalid s) (NodeStay s) :=
  nodeDone_stays (u := clearInvalid s) ⟨(NodeEffect.refl s).control ⟨id, id, nofun, rfl⟩, rfl⟩ false

/-- `DELIVER` on an untouched slot. -/
theorem deliver_stays (h : NodeStay s u) (hslot : SlotKept s u) (src : Byte) (len : Half) :
    Ensures (deliver src len u) (NodeStay s) := by
  intro t ht
  have hcfg : u.cfg = s.cfg := (congrArg State.cfg h.effect.rest :)
  obtain ⟨hready, -, -, hpayload⟩ := hslot
  rcases deliver_eq_next ht with ⟨data, hdata, hpos, hempty, rfl⟩ | rfl
  · have hfits : data.length ≤ s.cfg.maxPdu := by
      rw [length_of_octetsOf hdata, ← hcfg]
      exact (octetsOf_eq_ok.mp hdata).1
    have hfilled : SlotFilled s { u with
        rp_address := fillAddress u.cfg src, rp_payload := u.rp_payload.writeSeq 0 data
        rp_length := len, rp_ready := true } :=
      ⟨hready ▸ hempty, rfl, src, data, hpos, hfits, by rw [hcfg], by rw [hpayload],
        (length_of_octetsOf hdata).symm⟩
    exact ⟨{ h.effect with slot := .inr hfilled }, h.master_state⟩
  · exact h

theorem answer_stays (src : Byte) (len : Half) (s : State) : Ensures (answer src len s) (NodeStay s) := by
  intro t ht
  obtain ⟨data, -, h⟩ := answer_eq_next ht
  obtain ⟨htx, hout, hms⟩ := buildReply_keeps src data s
  have hask := (NodeEffect.refl s).buildReply src data
  rcases h with ⟨-, rfl⟩ | ⟨r, -, -, rfl⟩
  · exact ⟨hask, hms⟩
  · exact ⟨hask.transmit htx hout _ _ _ _, (transmit_master_state ..).trans hms⟩

theorem deliverFrame_stays (src : Byte) (len : Half) (s : State) : Ensures (deliverFrame src len s) (NodeStay s) :=
  ensures_andThen (deliver_stays (.refl s) ⟨rfl, rfl, rfl, rfl⟩ src len) fun _ => dropFrame_stays

end

/-! ## Rules of a master -/

/-- The step of a master: it enters ANSWER_DATA_REQUEST only for a frame of type DER (`der`), which stays valid
(43_master_fsm.md R240). -/
structure NodeMove (der : Prop) (s t : State) : Prop where
  effect : NodeEffect s t
  answering : t.master_state = .answerDataRequest → der ∧ t.valid_frame = true

section
variable {der : Prop} {s u : State}

theorem NodeStay.move {t : State} (h : NodeStay s t) (hs : s.master_state ≠ .answerDataRequest) : NodeMove der s t :=
  ⟨h.effect, fun ht => absurd (h.master_state.symm.trans ht) hs⟩

theorem takeToken_moves (h : NodeEffect s u) : Ensures (takeToken u) (NodeMove der s) :=
  ensures_nodeDone ⟨h.control ⟨id, id, id, rfl⟩, nofun⟩

theorem pollStation_moves (h : NodeEffect s u) (htx : u.tx_stream = s.tx_stream)
    (hout : u.output_buffer = s.output_buffer) (p : Byte) : Ensures (pollStation p u) (NodeMove der s) :=
  ensures_nodeDone ⟨(h.transmit htx hout _ _ _ _).control ⟨id, id, id, rfl⟩, nofun⟩

/-- The end of a rule outside ANSWER_DATA_REQUEST. -/
theorem nodeDone_moves (h : NodeEffect s u) (hu : u.master_state ≠ .answerDataRequest) (more : Bool) :
    Ensures (nodeDone more u) (NodeMove der s) :=
  ensures_nodeDone ⟨h.control ⟨id, id, id, rfl⟩, fun ht => absurd ht hu⟩

/-- 43_master_fsm.md R244 to R246. -/
theorem idleQuiet_moves (hs : s.master_state ≠ .answerDataRequest) : Ensures (idleQuiet s) (NodeMove der s) := by
  have hpoll (p : Byte) : NodeControl s { s with poll_station := p } := ⟨id, id, id, rfl⟩
  unfold idleQuiet
  split
  · exact nodeDone_moves (.refl s) hs false
  · extract_lets p
    split
    · exact takeToken_moves ((NodeEffect.refl s).control (hpoll p))
    · exact pollStation_moves ((NodeEffect.refl s).control (hpoll p)) rfl rfl p

/-- 43_master_fsm.md R250 to R252: the entry is sent, and popped when no reply is expected. -/
theorem useToken_moves (hs : s.master_state ≠ .answerDataRequest) : Ensures (useToken s) (NodeMove der s) := by
  have hdone : NodeControl s { s with master_state := .doneWithToken } := ⟨id, id, id, rfl⟩
  unfold useToken
  split
  · exact nodeDone_moves ((NodeEffect.refl s).control hdone) nofun true
  · next e _ =>
    split
    · exact nodeDone_moves ((NodeEffect.refl s).control hdone) nofun true
    · refine ensures_withOctets fun d => ?_
      have hsent (ft : Byte) : NodeEffect s (transmit ft e.destination_mac s.this_station d s) :=
        (NodeEffect.refl s).transmit rfl rfl ft _ _ d
      split
      · exact ensures_nodeDone ⟨(hsent ftDer).control ⟨id, id, id, rfl⟩, nofun⟩
      · extract_lets u
        have hcount : NodeControl u { u with frame_count := u.frame_count + 1 } := ⟨id, id, id, rfl⟩
        have hpop := ((hsent ftDner).control hcount).qPopElement ⟨transmit_q .., transmit_q_head ..⟩ 0
        exact nodeDone_moves hpop ((transmit_master_state ..).trans_ne hs) true

/-- 43_master_fsm.md R259, R260. -/
theorem waitQuiet_moves (hs : s.master_state ≠ .answerDataRequest) : Ensures (waitQuiet s) (NodeMove der s) := by
  have hpop : NodeEffect s (if s.cfg.derTimeoutRetain then s else qPop s) := by
    split
    · exact .refl s
    · exact (NodeEffect.refl s).qPopElement ⟨rfl, rfl⟩ 0
  unfold waitQuiet
  split
  · exact nodeDone_moves (.refl s) hs false
  · extract_lets t
    exact ensures_nodeDone ⟨hpop.control ⟨id, id, id, rfl⟩, nofun⟩

/-- 43_master_fsm.md R262. -/
theorem doneWithToken_moves (s : State) : Ensures (doneWithToken s) (NodeMove der s) :=
  ensures_nodeDone ⟨(NodeEffect.refl s).control ⟨id, id, id, rfl⟩, nofun⟩

/-- 43_master_fsm.md R264, R265. -/
theorem passToken_moves (s : State) : Ensures (passToken s) (NodeMove der s) := by
  unfold passToken
  split
  · exact ensures_nodeDone ⟨(NodeEffect.refl s).silenceReset.control ⟨id, id, id, rfl⟩, nofun⟩
  · have hsent : NodeEffect s (transmit ftToken s.next_station s.this_station [] s) :=
      (NodeEffect.refl s).transmit rfl rfl _ _ _ _
    exact ensures_nodeDone ⟨hsent.control ⟨id, id, id, rfl⟩, nofun⟩

/-- 43_master_fsm.md R267 to R269. -/
theorem noTokenQuiet_moves (hs : s.master_state ≠ .answerDataRequest) :
    Ensures (noTokenQuiet s) (NodeMove der s) := by
  have hpoll (p : Byte) : NodeControl s { s with poll_station := p } := ⟨id, id, id, rfl⟩
  unfold noTokenQuiet
  split
  · extract_lets p
    split
    · exact takeToken_moves ((NodeEffect.refl s).control (hpoll p))
    · exact pollStation_moves ((NodeEffect.refl s).control (hpoll p)) rfl rfl p
  · split
    · have hidle : NodeControl s { s with master_state := .idle } := ⟨id, id, id, rfl⟩
      exact nodeDone_moves ((NodeEffect.refl s).control hidle) nofun true
    · exact nodeDone_moves (.refl s) hs false

/-- 43_master_fsm.md R276, after the flag of a damaged frame may have been cleared. -/
theorem pollNext_moves (h : NodeControl s u) : Ensures (pollNext u) (NodeMove der s) := by
  have hpoll (p : Byte) : NodeControl u { u with poll_station := p } := ⟨id, id, id, rfl⟩
  have hu := (NodeEffect.refl s).control h
  unfold pollNext
  extract_lets p
  split
  · exact takeToken_moves hu
  · exact pollStation_moves (hu.control (hpoll p)) (by rw [h.rest]) (by rw [h.rest]) p

/-- 43_master_fsm.md R276, R277. -/
theorem pollQuiet_moves (hs : s.master_state ≠ .answerDataRequest) : Ensures (pollQuiet s) (NodeMove der s) := by
  unfold pollQuiet
  split
  · exact nodeDone_moves (.refl s) hs false
  · exact pollNext_moves ⟨id, id, id, rfl⟩

/-- 43_master_fsm.md R280: whatever the upper layer answers, the master is back in IDLE. -/
theorem answerDataRequest_moves (s : State) : Ensures (answerDataRequest s) (NodeMove der s) := by
  refine ensures_andThen (Q := NodeStay s) ?_ fun u hu => ?_
  · split
    · exact answer_stays _ _ s
    · exact ensures_next (.refl s)
  · exact ensures_nodeDone ⟨hu.effect.control ⟨nofun, id, id, rfl⟩, nofun⟩

/-- 43_master_fsm.md R266, R274. -/
theorem leaveToIdle_moves (s : State) : Ensures (leaveToIdle s) (NodeMove der s) :=
  ensures_nodeDone ⟨(NodeEffect.refl s).control ⟨id, id, id, rfl⟩, nofun⟩

/-- The end of a correlation, whatever it found. -/
theorem finishCorrelation_moves (hs : s.master_state ≠ .answerDataRequest) (src : Byte) (len : Half)
    (found : Except Fault (Option Nat)) : Ensures (finishCorrelation src len found s) (NodeMove der s) := by
  unfold finishCorrelation
  split
  · next k =>
    have hpop : NodeStay s (qPopElement k s) := ⟨(NodeEffect.refl s).qPopElement ⟨rfl, rfl⟩ k, rfl⟩
    refine ensures_andThen (deliver_stays hpop ⟨rfl, rfl, rfl, rfl⟩ src len) fun u hu => ?_
    exact ensures_nodeDone ⟨hu.effect.control ⟨nofun, id, id, rfl⟩, nofun⟩
  · exact (dropFrame_stays (.refl s)).mono fun _ h => h.move hs
  · exact ensures_fault _

end

/-! ## The reactions to a frame type -/

/-- Each rule of the reaction does what a NODE step can do, in the state and with the flag it is taken in. -/
structure FrameReaction.Moves (r : FrameReaction) (der : Prop) : Prop where
  slave : ∀ s, Ensures (r.slave s) (NodeStay s)
  idle : ∀ s, s.master_state = .idle → s.valid_frame = true → Ensures (r.idle s) (NodeMove der s)
  waitForReply : ∀ s, s.master_state = .waitForReply → Ensures (r.waitForReply s) (NodeMove der s)
  pollForMaster : ∀ s, Ensures (r.pollForMaster s) (NodeMove der s)

section
variable {der : Prop} {r : FrameReaction} {s : State}

theorem slaveStep_stays (hr : r.Moves der) (s : State) : Ensures (slaveStep r s) (NodeStay s) :=
  ensures_byFlag (fun _ => hr.slave s) (dropNotForUs_stays s) (dropInvalid_stays s) (nodeDone_stays (.refl s) false)

theorem masterStep_moves (hr : r.Moves der) (s : State) : Ensures (masterStep r s) (NodeMove der s) := by
  have hnot (hs : s.master_state ≠ .answerDataRequest) : Ensures (dropNotForUs s) (NodeMove der s) :=
    (dropNotForUs_stays s).mono fun _ h => h.move hs
  have hinv (hs : s.master_state ≠ .answerDataRequest) : Ensures (dropInvalid s) (NodeMove der s) :=
    (dropInvalid_stays s).mono fun _ h => h.move hs
  have hleave : Ensures (leaveToIdle s) (NodeMove der s) := leaveToIdle_moves s
  unfold masterStep
  cases hs : s.master_state
  case idle =>
    have hne : s.master_state ≠ .answerDataRequest := by simp [hs]
    exact ensures_byFlag (hr.idle s hs) (hnot hne) (hinv hne) (idleQuiet_moves hne)
  case useToken => exact useToken_moves (by simp [hs])
  case waitForReply =>
    have hne : s.master_state ≠ .answerDataRequest := by simp [hs]
    exact ensures_byFlag (fun _ => hr.waitForReply s hs) (hnot hne) (hinv hne) (waitQuiet_moves hne)
  case doneWithToken => exact doneWithToken_moves s
  case passToken => exact passToken_moves s
  case noToken =>
    exact ensures_byFlag (fun _ => hleave) hleave hleave (noTokenQuiet_moves (by simp [hs]))
  case pollForMaster =>
    exact ensures_byFlag (fun _ => hr.pollForMaster s) hleave (pollNext_moves ⟨id, id, nofun, rfl⟩)
      (pollQuiet_moves (by simp [hs]))
  case answerDataRequest => exact answerDataRequest_moves s

theorem nodeReact_effect (hr : r.Moves der) (s : State) : Ensures (nodeReact r s) (NodeEffect s) := by
  unfold nodeReact
  split
  · exact (masterStep_moves hr s).mono fun _ h => h.effect
  · exact (slaveStep_stays hr s).mono fun _ h => h.effect

end

/-! ## The instructions -/

section
variable {der : Prop} (dst src : Byte) (len : Half) (hcrc : Byte)

theorem dropFrame_moves {s : State} (hs : s.master_state ≠ .answerDataRequest) :
    Ensures (dropFrame s) (NodeMove der s) :=
  (dropFrame_stays (.refl s)).mono fun _ h => h.move hs

theorem deliverFrame_moves {s : State} (hs : s.master_state ≠ .answerDataRequest) :
    Ensures (deliverFrame src len s) (NodeMove der s) :=
  (deliverFrame_stays src len s).mono fun _ h => h.move hs

/-- A reaction that drops the frame as a slave and in WAIT_FOR_REPLY, and gives way to it in POLL_FOR_MASTER, needs a look
at IDLE only. -/
theorem FrameReaction.Moves.of_idle {idle : State → Result}
    (h : ∀ s, s.master_state = .idle → s.valid_frame = true → Ensures (idle s) (NodeMove der s)) :
    FrameReaction.Moves ⟨dropFrame, idle, dropFrame, leaveToIdle⟩ der where
  slave s := dropFrame_stays (.refl s)
  idle := h
  waitForReply _ hs := dropFrame_moves (by simp [hs])
  pollForMaster := leaveToIdle_moves

theorem exec_of_isIgnoredType {i : Instr} (h : isIgnoredType i) (s : State) : exec i s = nodeReact ignoredType s := by
  cases i <;> first | rfl | exact h.elim

/-- The row runs NODE_STEP with a reaction that does what a NODE step can do; a row that is not DER never enters
ANSWER_DATA_REQUEST. -/
def Reacts (i : Instr) : Prop :=
  ∃ r : FrameReaction, (∀ s, exec i s = nodeReact r s) ∧ r.Moves (i.frameType = some ftDer)

theorem reacts_of_isIgnoredType {i : Instr} (h : isIgnoredType i) : Reacts i :=
  ⟨_, exec_of_isIgnoredType h, .of_idle fun _ hs _ => dropFrame_moves (by simp [hs])⟩

theorem reacts_token : Reacts (.token dst src len hcrc) := by
  refine ⟨_, fun _ => rfl, .of_idle fun s hs _ => ?_⟩
  split
  · exact takeToken_moves ((NodeEffect.refl s).control ⟨nofun, id, id, rfl⟩)
  · exact dropFrame_moves (by simp [hs])

/-- The RPFM goes out first, and the frame is dropped as any other. -/
theorem reacts_pfm : Reacts (.pfm dst src len hcrc) := by
  refine ⟨_, fun _ => rfl, .of_idle fun s hs _ => ?_⟩
  split
  · have hsent : NodeStay s (transmit ftRpfm src s.this_station [] s) :=
      ⟨(NodeEffect.refl s).transmit rfl rfl _ _ _ _, transmit_master_state ..⟩
    exact (dropFrame_stays hsent).mono fun _ h => h.move (by simp [hs])
  · exact dropFrame_moves (by simp [hs])

theorem reacts_rpfm : Reacts (.rpfm dst src len hcrc) := by
  refine ⟨_, fun _ => rfl, ?_⟩
  exact {
    slave := fun s => dropFrame_stays (.refl s)
    idle := fun s hs _ => dropFrame_moves (by simp [hs])
    waitForReply := fun s hs => dropFrame_moves (by simp [hs])
    pollForMaster := fun s => by
      dsimp only
      split
      · exact ensures_nodeDone ⟨(NodeEffect.refl s).control ⟨nofun, id, id, rfl⟩, nofun⟩
      · exact leaveToIdle_moves s }

theorem reacts_der : Reacts (.der dst src len hcrc) := by
  refine ⟨_, fun _ => rfl, ?_⟩
  exact {
    slave := fun s => by
      dsimp only
      split
      · exact ensures_andThen (answer_stays src len s) fun _ => dropFrame_stays
      · split
        · exact deliverFrame_stays src len s
        · exact dropFrame_stays (.refl s)
    idle := fun s hs hv => by
      dsimp only
      split
      · exact ensures_nodeDone ⟨(NodeEffect.refl s).control ⟨id, id, id, rfl⟩, fun _ => ⟨rfl, hv⟩⟩
      · split
        · exact deliverFrame_moves src len (by simp [hs])
        · exact dropFrame_moves (by simp [hs])
    waitForReply := fun s hs => dropFrame_moves (by simp [hs])
    pollForMaster := leaveToIdle_moves }

theorem reacts_dner : Reacts (.dner dst src len hcrc) := by
  refine ⟨_, fun _ => rfl, ?_⟩
  exact {
    slave := fun s => by
      dsimp only
      split
      · exact deliverFrame_stays src len s
      · exact dropFrame_stays (.refl s)
    idle := fun s hs _ => by
      dsimp only
      split
      · exact deliverFrame_moves src len (by simp [hs])
      · exact dropFrame_moves (by simp [hs])
    waitForReply := fun s hs => by
      dsimp only
      split
      · exact ensures_withOctets fun p => finishCorrelation_moves (by simp [hs]) src len _
      · exact dropFrame_moves (by simp [hs])
    pollForMaster := leaveToIdle_moves }

end

/-- Every frame row runs NODE_STEP with a reaction. -/
theorem reacts_of_isFrame {i : Instr} (h : isFrame i) : Reacts i := by
  by_cases hi : isIgnoredType i
  · exact reacts_of_isIgnoredType hi
  cases i
  case token => exact reacts_token ..
  case pfm => exact reacts_pfm ..
  case rpfm => exact reacts_rpfm ..
  case der => exact reacts_der ..
  case dner => exact reacts_dner ..
  -- What is left is an ignored type, or no frame row.
  all_goals first | exact absurd trivial hi | cases h

/-- Every PDU row ends a correlation, or does nothing (46_reply_correlator.md R320; entry 12). -/
theorem exec_pdu {i : Instr} (h : ¬ isFrame i) : ∃ found : State → List Byte → Except Fault (Option Nat), ∀ s,
    exec i s = if correlating s then
      withInput s.rx_data_length s fun p => finishCorrelation s.rx_source s.rx_data_length (found s p) s
    else .next s := by
  cases i <;> first | exact absurd rfl h | exact ⟨_, fun _ => rfl⟩

/-- The frame of every instruction, in its strongest form. -/
theorem exec_effect (i : Instr) (s : State) : Ensures (exec i s) (NodeEffect s) := by
  by_cases hi : isFrame i
  · obtain ⟨r, hexec, hr⟩ := reacts_of_isFrame hi
    rw [hexec]
    exact nodeReact_effect hr s
  · obtain ⟨found, hexec⟩ := exec_pdu hi
    rw [hexec]
    split
    · next hc =>
      have hs : s.master_state = .waitForReply := by
        simp only [correlating, Bool.and_eq_true, beq_iff_eq] at hc
        obtain ⟨⟨⟨⟨-, hs⟩, -⟩, -⟩, -⟩ := hc
        exact hs
      exact ensures_withOctets fun p =>
        (finishCorrelation_moves (der := False) (by simp [hs]) _ _ _).mono fun _ h => h.effect
    · exact ensures_next (.refl s)

/-- Settles O28: the zones of `NodeEffect`, read octet by octet. -/
theorem execFrame : Obligations.ExecFrame := by
  intro i s t ht
  have h := exec_effect i s t ht
  refine ⟨?_, h.silence_ms, ?_, fun a => ?_, h.valid_frame, h.valid_frame_not_for_us, h.invalid_frame, ?_, h.rest⟩
  · obtain ⟨f, -, htx, hout, hms⟩ := h.sent
    refine ⟨f, htx, hms, fun a ha => ?_, fun a ha => ?_⟩
    · rw [hout, Memory.read_writeSeq, if_pos ⟨by omega, by omega⟩, Nat.sub_zero]
    · rw [hout, Memory.read_writeSeq_outside _ (by omega)]
  · rcases h.slot with ⟨hready, haddress, hlength, hpayload⟩ |
      ⟨hempty, hfull, src, data, -, -, -, hpayload, hlength⟩
    · exact .inl ⟨hready, haddress, hlength, fun a => by rw [hpayload]⟩
    · refine .inr ⟨hempty, hfull, fun a ha => ?_⟩
      rw [hpayload, Memory.read_writeSeq_outside _ (by omega)]
  · rw [show t.input_buffer = s.input_buffer from (congrArg State.input_buffer h.rest :)]
  · rcases h.queue with ⟨hq, -⟩ | ⟨k, hq, -⟩
    · exact .inl hq
    · exact .inr ⟨k, hq⟩

end Sys2Proof.Machine
end

section
/-!
SUPPORT. NODE keeps the invariant: every part but the node machine's follows from the effect of the step; that part needs
the state the step ends in, and that a row fetched as DER has the frame type DER in the registers.
-/

namespace Sys2Proof.Machine

variable {s t : State}

/-- The row of a frame-type octet has that frame type (30_encoding.md R117). -/
theorem frameType_decodeHeader (ft dst src : Byte) (len : Half) (hcrc : Byte) :
    (decodeHeader ft dst src len hcrc).frameType = some ft :=
  decodeHeader_cases (motive := fun ft i => i.frameType = some ft) dst src len hcrc rfl rfl rfl rfl rfl rfl rfl rfl
    (fun _ => rfl) (fun _ => rfl) (fun _ => rfl) (fun _ => rfl) (fun _ => rfl) ft

theorem SlotInv.of_slotFilled (hc : s.cfg.Legal) (hcfg : t.cfg = s.cfg) (hf : SlotFilled s t) :
    SlotInv t := by
  obtain ⟨-, -, src, data, hpos, hfits, haddress, hpayload, hlength⟩ := hf
  have hmac : t.rp_address.mac.rest.length + 1 = s.cfg.maxMacLen := haddress ▸ length_macOctets hc src
  have hadr : t.rp_address.adr.rest.length + 1 = s.cfg.maxMacLen := haddress ▸ length_macOctets hc 0
  exact {
    length_pos := fun _ => hlength ▸ hpos
    length_le := fun _ => by rw [hlength, hcfg]; exact hfits
    written := fun _ => by rw [hpayload, hlength]; exact Memory.written_writeSeq _ data
    mac_size := hcfg ▸ hmac
    adr_size := hcfg ▸ hadr }

/-- What NODE does keeps every part of the invariant but the node machine's. -/
theorem NodeEffect.inv (he : NodeEffect s t) (h : Inv s) (hnode : NodeInv t) : Inv t := by
  have hcfg : t.cfg = s.cfg := (congrArg State.cfg he.rest :)
  have hstate : t.rx_state = s.rx_state := (congrArg State.rx_state he.rest :)
  have hinput : t.input_buffer = s.input_buffer := (congrArg State.input_buffer he.rest :)
  exact {
    config := h.config.congr hcfg (congrArg State.this_station he.rest :) (congrArg State.max_master he.rest :)
      (congrArg State.max_info_frames he.rest :) (by
        have := h.config.silence_le
        rcases he.silence_ms with hms | hms <;> omega)
    handoff := h.handoff.of_cleared he.valid_frame he.valid_frame_not_for_us he.invalid_frame hstate
    assembly := h.assembly.congr hcfg hstate (congrArg State.rx_index he.rest :)
      (congrArg State.rx_data_length he.rest :) hinput he.valid_frame
    node := hnode
    queue := by
      rcases he.queue with ⟨hq, hhead⟩ | ⟨k, hq, hhead⟩
      · exact h.queue.congr hcfg hq hhead
      · exact (h.queue.popElement k).congr hcfg hq hhead
    slot := by
      rcases he.slot with ⟨hready, haddress, hlength, hpayload⟩ | hf
      · exact h.slot.congr hcfg hready.symm.trans hlength hpayload haddress
      · exact .of_slotFilled h.config.legal hcfg hf
    arrays := {
      input := by rw [hinput, hcfg]; exact h.arrays.input
      output := by
        obtain ⟨f, hlen, -, hout, -⟩ := he.sent
        rw [hout, hcfg]
        exact Memory.sound_writeSeq h.arrays.output 0 f (by omega)
      packet := by
        rcases he.slot with ⟨-, -, -, hpayload⟩ | ⟨-, -, src, data, -, hfits, -, hpayload, -⟩ <;> rw [hpayload, hcfg]
        · exact h.arrays.packet
        · exact Memory.sound_writeSeq h.arrays.packet 0 data (by omega) }
    host := h.host.congr hcfg he.replies (congrArg State.receive_left he.rest :) }

/-- A slave's `master_state` rests, and a master enters ANSWER_DATA_REQUEST only for a valid DER. -/
theorem nodeInv_nodeStep (h : NodeInv s) : Ensures (nodeStep s) NodeInv := by
  intro t ht
  have he := exec_effect _ s t ht
  obtain ⟨r, hexec, hr⟩ := reacts_of_isFrame (isFrame_fetch s)
  rw [nodeStep, hexec] at ht
  cases hm : isMaster s
  case false =>
    rw [nodeReact_of_slave r hm] at ht
    have hidle : t.master_state = .idle := (slaveStep_stays hr s t ht).master_state.trans (h.slave_idle hm)
    exact .of_not_answering (fun _ => hidle) (by simp [hidle])
  case true =>
    rw [nodeReact_of_master r hm] at ht
    have hmove := masterStep_moves hr s t ht
    have hmaster : isMaster t = true := (congrArg isMaster he.rest :).trans hm
    exact {
      slave_idle := by simp [hmaster]
      answering_valid := fun ha => (hmove.answering ha).2
      answering_der := fun ha => by
        rw [show t.rx_frame_type = s.rx_frame_type from (congrArg State.rx_frame_type he.rest :)]
        exact Option.some.inj ((frameType_decodeHeader ..).symm.trans (hmove.answering ha).1) }

theorem inv_nodeStep (h : Inv s) : Ensures (nodeStep s) Inv :=
  fun t ht => (exec_effect _ s t ht).inv h (nodeInv_nodeStep h.node t ht)

end Sys2Proof.Machine
end

section
/-!
SUPPORT. The steps at the block's boundary: the clock, the port and the host. What they touch (the obligations
HandoffStable and ConfigWriters), and that they keep the invariant, with which StepKeepsInv is settled.
-/

namespace Sys2Proof.Machine

/-! ## What the boundary touches -/

/-- `t` differs from `s` only where the clock, the port and the host's sends and receives write. -/
def BoundaryWrites (s t : State) : Prop :=
  { t with
    silence_ms := s.silence_ms, q := s.q, rp_ready := s.rp_ready, rx_stream := s.rx_stream, tx_stream := s.tx_stream
    host_result := s.host_result, receive_left := s.receive_left } = s

/-- `t` follows from `s` by an operation that may take the packet out of the slot, and may begin or end a wait. -/
def Receives (s t : State) : Prop :=
  ∃ ready left result, t = { s with rp_ready := ready, receive_left := left, host_result := result } ∧
    (ready = true → s.rp_ready = true) ∧
    ∀ n, left = some n → s.receive_left = some n ∨ n ≤ Config.receiveTimeoutMax

section
variable {s t : State}

theorem Receives.boundaryWrites (h : Receives s t) : BoundaryWrites s t := by
  obtain ⟨ready, left, result, rfl, -, -⟩ := h
  rfl

theorem takePacket_receives {left : Option Nat}
    (hleft : ∀ n, left = some n → s.receive_left = some n ∨ n ≤ Config.receiveTimeoutMax) :
    Ensures (takePacket left s) (Receives s) := by
  unfold takePacket
  split
  · exact ensures_withOctets fun p => ensures_next ⟨_, _, _, rfl, nofun, hleft⟩
  · exact ensures_next ⟨_, _, _, rfl, id, hleft⟩

theorem receive_receives (s : State) : Ensures (receive s) (Receives s) := takePacket_receives fun _ => .inl

theorem receiveCall_receives (timeout : Nat) (s : State) : Ensures (receiveCall timeout s) (Receives s) := by
  unfold receiveCall
  extract_lets wait
  split
  · exact takePacket_receives nofun
  · refine ensures_next ⟨_, _, _, rfl, id, fun n hn => .inr ?_⟩
    obtain rfl := Option.some.inj hn
    exact Nat.min_le_right ..

theorem receiveRetry_receives (s : State) : Ensures (receiveRetry s) (Receives s) := by
  unfold receiveRetry
  split
  · exact ensures_next ⟨_, _, _, rfl, id, fun _ => .inl⟩
  · split
    · exact takePacket_receives nofun
    · exact ensures_next ⟨_, _, _, rfl, id, fun _ => .inl⟩

end

theorem qEnqueue_cases (dest : Byte) (pdu : List Byte) (er : Bool) (s : State) :
    enqueueAccepts pdu s = true ∧ qEnqueue dest pdu er s = (true, { s with q := s.q ++ [newEntry dest pdu er] }) ∨
      qEnqueue dest pdu er s = (false, s) := by
  unfold qEnqueue
  split
  · next h => exact .inl ⟨h, rfl⟩
  · exact .inr rfl

/-- What SEND can do: queue one entry it accepts, or nothing but answer (47_external_interfaces.md R351). -/
def Sends (s t : State) : Prop :=
  (∃ result, t = { s with host_result := result }) ∨
    ∃ dest pdu er result, enqueueAccepts pdu s = true ∧
      t = { s with q := s.q ++ [newEntry dest pdu er], host_result := result }

theorem send_sends (dest : BacnetAddress) (pdu : List Byte) (er : Bool) (s : State) :
    Ensures (send dest pdu er s) (Sends s) := by
  unfold send
  split
  · exact ensures_next (.inl ⟨_, rfl⟩)
  · next m _ =>
    rcases qEnqueue_cases m pdu (er && m != Config.broadcastMac) s with ⟨hacc, he⟩ | he <;> rw [he]
    · exact ensures_next (.inr ⟨_, _, _, _, hacc, rfl⟩)
    · exact ensures_next (.inl ⟨_, rfl⟩)

theorem Sends.boundaryWrites {s t : State} (h : Sends s t) : BoundaryWrites s t := by
  rcases h with ⟨result, rfl⟩ | ⟨dest, pdu, er, result, -, rfl⟩ <;> rfl

theorem setMacAddress_cases (a : Byte) (s : State) :
    acceptsMacAddress a s = true ∧
        setMacAddress a s = { s with this_station := a, master_state := .idle, host_result := .nothing } ∨
      setMacAddress a s = { s with host_result := .nothing } := by
  unfold setMacAddress
  split
  · next h => exact .inl ⟨(Bool.and_eq_true_iff.mp h).1, rfl⟩
  · exact .inr rfl

theorem setMaxMaster_cases (m : Byte) (s : State) :
    acceptsMaxMaster m s = true ∧ setMaxMaster m s = { s with max_master := m, host_result := .nothing } ∨
      setMaxMaster m s = { s with host_result := .nothing } := by
  unfold setMaxMaster
  split
  · next h => exact .inl ⟨h, rfl⟩
  · exact .inr rfl

theorem setMaxInfoFrames_cases (n : Byte) (s : State) :
    1 ≤ n.toNat ∧ setMaxInfoFrames n s = { s with max_info_frames := n, host_result := .nothing } ∨
      setMaxInfoFrames n s = { s with host_result := .nothing } := by
  unfold setMaxInfoFrames
  split
  · next h => exact .inl ⟨h, rfl⟩
  · exact .inr rfl

/-- What an event can do: the agents RX and NODE, RESET, the three accessors that write, and the rest of the boundary. -/
inductive EventEffect (s : State) : Event → State → Prop where
  | rx : EventEffect s .rx (rxStep s)
  | node {t : State} (h : NodeEffect s t) : EventEffect s .node t
  | reset : EventEffect s .reset (doReset s)
  | setMacAddress (a : Byte) : EventEffect s (.setMacAddress a) (setMacAddress a s)
  | setMaxMaster (m : Byte) : EventEffect s (.setMaxMaster m) (setMaxMaster m s)
  | setMaxInfoFrames (n : Byte) : EventEffect s (.setMaxInfoFrames n) (setMaxInfoFrames n s)
  | boundary {e : Event} {t : State} (h : BoundaryWrites s t) : EventEffect s e t

theorem runEvent_effect (e : Event) (s : State) : Ensures (runEvent e s) (EventEffect s e) := by
  cases e
  case rx => exact ensures_next .rx
  case node => exact (exec_effect _ s).mono fun _ => .node
  case reset => exact ensures_next .reset
  case setMacAddress a => exact ensures_next (.setMacAddress a)
  case setMaxMaster m => exact ensures_next (.setMaxMaster m)
  case setMaxInfoFrames n => exact ensures_next (.setMaxInfoFrames n)
  case send dest pdu er => exact (send_sends dest pdu er s).mono fun _ h => .boundary h.boundaryWrites
  case receive => exact (receive_receives s).mono fun _ h => .boundary h.boundaryWrites
  case receiveCall timeout => exact (receiveCall_receives timeout s).mono fun _ h => .boundary h.boundaryWrites
  case receiveRetry => exact (receiveRetry_receives s).mono fun _ h => .boundary h.boundaryWrites
  all_goals exact ensures_next (.boundary rfl)

/-! ## The zones an event leaves alone -/

/-- The RX registers and `input_buffer`, which the handoff contract keeps (10_state.md R45 item 3). -/
def rxZone (s : State) :=
  (s.rx_state, s.rx_frame_type, s.rx_destination, s.rx_source, s.rx_data_length, s.rx_index, s.rx_header_crc,
    s.rx_data_crc, s.input_buffer)

/-- The handoff flags (10_state.md R27). -/
def flagZone (s : State) := (s.valid_frame, s.valid_frame_not_for_us, s.invalid_frame)

/-- The parameters and the zone CONFIG (10_state.md R21). -/
def configZone (s : State) := (s.cfg, s.this_station, s.max_master, s.max_info_frames)

/-- Settles O27: with a flag up RX rests, NODE does not write the RX zone, and nothing at the boundary does. -/
theorem handoffStable : Obligations.HandoffStable := by
  intro e s t hi hf hreset ht
  suffices h : rxZone t = rxZone s ∧ (e ≠ .node → flagZone t = flagZone s) by
    obtain ⟨hz, hflags⟩ := h
    simp only [rxZone, flagZone, Prod.mk.injEq] at hz hflags
    obtain ⟨hstate, htype, hdst, hsrc, hlen, hindex, hhcrc, hdcrc, hinput⟩ := hz
    exact ⟨hstate, htype, hdst, hsrc, hlen, hindex, hhcrc, hdcrc, fun a => by rw [hinput], hflags⟩
  cases runEvent_effect e s t ht
  case rx => rw [rxStep_of_flag hi hf]; exact ⟨rfl, fun _ => rfl⟩
  case node h => exact ⟨(congrArg rxZone h.rest :), fun hne => absurd rfl hne⟩
  case reset => exact absurd rfl hreset
  case setMacAddress a =>
    rcases setMacAddress_cases a s with ⟨-, h⟩ | h <;> rw [h] <;> exact ⟨rfl, fun _ => rfl⟩
  case setMaxMaster m =>
    rcases setMaxMaster_cases m s with ⟨-, h⟩ | h <;> rw [h] <;> exact ⟨rfl, fun _ => rfl⟩
  case setMaxInfoFrames n =>
    rcases setMaxInfoFrames_cases n s with ⟨-, h⟩ | h <;> rw [h] <;> exact ⟨rfl, fun _ => rfl⟩
  case boundary h => exact ⟨(congrArg rxZone h :), fun _ => (congrArg flagZone h :)⟩

theorem configZone_rxStep (s : State) : configZone (rxStep s) = configZone s := by
  obtain ⟨ms, rest, -, hw⟩ := rxStep_writes s
  exact (congrArg configZone hw.rest :)

/-- Settles O59: RX, NODE and the boundary leave CONFIG alone, and each accessor that writes writes its own register. -/
theorem configWriters : Obligations.ConfigWriters := by
  intro e s t ht
  have kept (h : configZone t = configZone s) :
      t.cfg = s.cfg ∧ (t.this_station ≠ s.this_station → e = .setMacAddress t.this_station ∨ e = .reset) ∧
        (t.max_master ≠ s.max_master → e = .setMaxMaster t.max_master ∨ e = .reset) ∧
        (t.max_info_frames ≠ s.max_info_frames → e = .setMaxInfoFrames t.max_info_frames ∨ e = .reset) := by
    simp only [configZone, Prod.mk.injEq] at h
    obtain ⟨hcfg, hstation, hmaster, hframes⟩ := h
    exact ⟨hcfg, absurd hstation, absurd hmaster, absurd hframes⟩
  cases runEvent_effect e s t ht
  case rx => exact kept (configZone_rxStep s)
  case node h => exact kept (congrArg configZone h.rest :)
  case reset => exact ⟨rfl, fun _ => .inr rfl, fun _ => .inr rfl, fun _ => .inr rfl⟩
  case setMacAddress a =>
    rcases setMacAddress_cases a s with ⟨-, h⟩ | h
    · rw [h]; exact ⟨rfl, fun _ => .inl rfl, absurd rfl, absurd rfl⟩
    · exact kept (by rw [h]; rfl)
  case setMaxMaster m =>
    rcases setMaxMaster_cases m s with ⟨-, h⟩ | h
    · rw [h]; exact ⟨rfl, absurd rfl, fun _ => .inl rfl, absurd rfl⟩
    · exact kept (by rw [h]; rfl)
  case setMaxInfoFrames n =>
    rcases setMaxInfoFrames_cases n s with ⟨-, h⟩ | h
    · rw [h]; exact ⟨rfl, absurd rfl, absurd rfl, fun _ => .inl rfl⟩
    · exact kept (by rw [h]; rfl)
  case boundary h => exact kept (congrArg configZone h :)

/-! ## The boundary keeps the invariant -/

/-- Outside RX and NODE an event changes the zones CONFIG, SILENCE, QUEUE and SLOT, `master_state` and the host's wait, and
no other element the invariant reads: the other parts come along. -/
theorem Inv.of_boundary {s t : State} (h : Inv s) (config : ConfigInv t) (node : NodeInv t) (queue : QueueInv t)
    (slot : SlotInv t) (host : HostInv t)
    (rest : { t with
      this_station := s.this_station, max_master := s.max_master, max_info_frames := s.max_info_frames
      silence_ms := s.silence_ms, master_state := s.master_state, q := s.q, rp_ready := s.rp_ready
      host_result := s.host_result, receive_left := s.receive_left } = s) : Inv t where
  config := config
  handoff := h.handoff.congr (congrArg State.valid_frame rest :) (congrArg State.valid_frame_not_for_us rest :)
    (congrArg State.invalid_frame rest :) (congrArg State.rx_state rest :)
  assembly := h.assembly.congr (congrArg State.cfg rest :) (congrArg State.rx_state rest :)
    (congrArg State.rx_index rest :) (congrArg State.rx_data_length rest :) (congrArg State.input_buffer rest :)
    (congrArg State.valid_frame rest :).symm.trans
  node := node
  queue := queue
  slot := slot
  arrays := h.arrays.congr (congrArg State.cfg rest :) (congrArg State.input_buffer rest :)
    (congrArg State.output_buffer rest :) (congrArg State.rp_payload rest :)
  host := host

section
variable {s t : State}

theorem inv_tick (h : Inv s) : Inv (tick s) := by
  have hsilence : silenceNext s ≤ s.cfg.silenceMax := Nat.min_le_right ..
  have hwait : ∀ n, s.receive_left.map (· - 1) = some n → n ≤ Config.receiveTimeoutMax := by
    intro n hn
    obtain ⟨k, hk, rfl⟩ := Option.map_eq_some_iff.mp hn
    have := h.host.wait_le k hk
    omega
  exact h.of_boundary (h.config.congr rfl rfl rfl rfl hsilence) (h.node.congr rfl rfl rfl rfl rfl)
    (h.queue.congr rfl rfl rfl) (h.slot.congr rfl id rfl rfl rfl) ⟨h.host.replies, hwait⟩ rfl

/-- An entry made of data that fits is a well-formed one (45_pdu_queue.md R301). -/
theorem entryInv_newEntry {c : Config} (hc : c.Legal) (dest : Byte) {pdu : List Byte} (er : Bool)
    (hpos : 1 ≤ pdu.length) (hfits : pdu.length ≤ c.maxPdu) : EntryInv c (newEntry dest pdu er) := by
  have hlength : (newEntry dest pdu er).length.toNat = pdu.length := by
    have := hc.maxPdu_le
    simp only [newEntry, BitVec.toNat_ofNat]
    omega
  exact {
    length_pos := hlength ▸ hpos
    length_le := hlength ▸ hfits
    sound := Memory.sound_writeSeq (Memory.sound_nil _) 0 pdu (by omega)
    written := hlength ▸ Memory.written_writeSeq [] pdu }

theorem QueueInv.enqueue (h : QueueInv s) (hc : s.cfg.Legal) (dest : Byte) {pdu : List Byte} (er : Bool)
    (hacc : enqueueAccepts pdu s = true) : QueueInv { s with q := s.q ++ [newEntry dest pdu er] } := by
  simp only [enqueueAccepts, qCount_eq, Bool.and_eq_true, bne_iff_ne, ne_eq, decide_eq_true_eq] at hacc
  obtain ⟨hroom, hpos, hfits⟩ := hacc
  exact {
    count_le := by
      have := h.count_le
      simp only [List.length_append, List.length_singleton]
      omega
    head_lt := h.head_lt
    entries := fun e he => by
      rcases List.mem_append.mp he with he | he
      · exact h.entries e he
      · rw [List.mem_singleton.mp he]
        exact entryInv_newEntry hc dest er (by omega) hfits }

theorem Sends.inv (hs : Sends s t) (h : Inv s) : Inv t := by
  rcases hs with ⟨result, rfl⟩ | ⟨dest, pdu, er, result, hacc, rfl⟩
  · exact h.of_unread (.inl rfl) rfl
  · exact h.of_boundary (h.config.congr rfl rfl rfl rfl h.config.silence_le) (h.node.congr rfl rfl rfl rfl rfl)
      ((h.queue.enqueue h.config.legal dest er hacc).congr rfl rfl rfl) (h.slot.congr rfl id rfl rfl rfl)
      (h.host.congr rfl (fun _ => id) rfl) rfl

theorem Receives.inv (hr : Receives s t) (h : Inv s) : Inv t := by
  obtain ⟨ready, left, result, rfl, hready, hleft⟩ := hr
  have hwait : ∀ n, left = some n → n ≤ Config.receiveTimeoutMax := fun n hn =>
    (hleft n hn).elim (h.host.wait_le n) id
  exact h.of_boundary (h.config.congr rfl rfl rfl rfl h.config.silence_le) (h.node.congr rfl rfl rfl rfl rfl)
    (h.queue.congr rfl rfl rfl) (h.slot.congr rfl hready rfl rfl rfl) ⟨h.host.replies, hwait⟩ rfl

theorem inv_setMacAddress (a : Byte) (h : Inv s) : Inv (setMacAddress a s) := by
  rcases setMacAddress_cases a s with ⟨hacc, he⟩ | he <;> rw [he]
  · simp only [acceptsMacAddress, Bool.and_eq_true, Bool.or_eq_true, decide_eq_true_eq] at hacc
    obtain ⟨-, hrange⟩ := hacc
    have hmaster : a.toNat ≤ 127 → a.toNat ≤ s.max_master.toNat := by omega
    exact h.of_boundary
      ⟨h.config.legal, h.config.max_master_le, hmaster, h.config.info_frames_pos, h.config.silence_le⟩
      (.of_not_answering (fun _ => rfl) nofun) (h.queue.congr rfl rfl rfl) (h.slot.congr rfl id rfl rfl rfl)
      (h.host.congr rfl (fun _ => id) rfl) rfl
  · exact h.of_unread (.inl rfl) rfl

/-- A new `max_master` keeps the role: a slave's address is above 127. -/
theorem inv_setMaxMaster (m : Byte) (h : Inv s) : Inv (setMaxMaster m s) := by
  rcases setMaxMaster_cases m s with ⟨hacc, he⟩ | he <;> rw [he]
  · simp only [acceptsMaxMaster, Bool.and_eq_true, Bool.or_eq_true, decide_eq_true_eq] at hacc
    obtain ⟨hm, hrange⟩ := hacc
    have hmaster : s.this_station.toNat ≤ 127 → s.this_station.toNat ≤ m.toNat := by omega
    have hslave : isMaster { s with max_master := m, host_result := .nothing } = false → s.master_state = .idle := by
      have := h.config.max_master_le
      simp only [isMaster, decide_eq_false_iff_not]
      intro hnot
      exact h.node.slave_idle (by simp only [isMaster, decide_eq_false_iff_not]; omega)
    exact h.of_boundary
      ⟨h.config.legal, hm, hmaster, h.config.info_frames_pos, h.config.silence_le⟩
      ⟨hslave, h.node.answering_valid, h.node.answering_der⟩ (h.queue.congr rfl rfl rfl)
      (h.slot.congr rfl id rfl rfl rfl) (h.host.congr rfl (fun _ => id) rfl) rfl
  · exact h.of_unread (.inl rfl) rfl

theorem inv_setMaxInfoFrames (n : Byte) (h : Inv s) : Inv (setMaxInfoFrames n s) := by
  rcases setMaxInfoFrames_cases n s with ⟨hpos, he⟩ | he <;> rw [he]
  · exact h.of_boundary
      ⟨h.config.legal, h.config.max_master_le, h.config.master_in_range, hpos, h.config.silence_le⟩
      (h.node.congr rfl rfl rfl rfl rfl) (h.queue.congr rfl rfl rfl) (h.slot.congr rfl id rfl rfl rfl)
      (h.host.congr rfl (fun _ => id) rfl) rfl
  · exact h.of_unread (.inl rfl) rfl

end

/-! ## The step -/

/-- Every event keeps the invariant. -/
theorem inv_runEvent (e : Event) {s : State} (h : Inv s) : Ensures (runEvent e s) Inv := by
  cases e
  case tick => exact ensures_next (inv_tick h)
  case rx => exact ensures_next (inv_rxStep h)
  case node => exact inv_nodeStep h
  case send dest pdu er => exact (send_sends dest pdu er s).mono fun _ hs => hs.inv h
  case receive => exact (receive_receives s).mono fun _ hr => hr.inv h
  case receiveCall timeout => exact (receiveCall_receives timeout s).mono fun _ hr => hr.inv h
  case receiveRetry => exact (receiveRetry_receives s).mono fun _ hr => hr.inv h
  case setMacAddress a => exact ensures_next (inv_setMacAddress a h)
  case setMaxMaster m => exact ensures_next (inv_setMaxMaster m h)
  case setMaxInfoFrames n => exact ensures_next (inv_setMaxInfoFrames n h)
  case reset => exact ensures_next (inv_doReset h.config.legal h.host)
  all_goals exact ensures_next (h.of_unread (.inl rfl) rfl)

/-- Taking an event touches the order of steps only, which the invariant does not read. -/
theorem inv_takeEvent {s : State} (h : Inv s) : Inv (takeEvent s).2 := by
  unfold takeEvent
  split <;> exact h.of_unread (.inl rfl) rfl

/-- Settles O9: the event taken is one of an agent, and each agent's steps keep the invariant. -/
theorem stepKeepsInv : Obligations.StepKeepsInv :=
  fun s _ h ht => inv_runEvent (takeEvent s).1 (inv_takeEvent h) _ ht

end Sys2Proof.Machine
end

section
/-!
The decoder and the encoder are inverse to each other (30_encoding.md R110, R117, R131, R132). The decoder reads an
octet as fields, and adjacent fields rejoin to the octet, so the encoding of what an octet decodes to is that octet; and
every instruction is what some octets decode to.
-/

namespace Sys2Proof

/-! ## The fields of an octet -/

/-- A bit, written as the encoder writes it, is a field of width 1. -/
theorem bit_getLsbD {w : Nat} (x : BitVec w) (n : Nat) : bit (x.getLsbD n) = x.extractLsb' n 1 := by
  ext j hj
  simp [bit, Nat.lt_one_iff.mp hj]

/-- The layouts `nrdrsepp` of the NPDU control octet, and of the APDU octet 0 after its type: `gmax`, `xxxx`, `gmxx`,
`xxnv`, `xxxv` (R131 to R135). -/
theorem fields_rejoin (b : Byte) :
    bit (b.getLsbD 7) ++ bit (b.getLsbD 6) ++ bit (b.getLsbD 5) ++ bit (b.getLsbD 4) ++ bit (b.getLsbD 3) ++
      bit (b.getLsbD 2) ++ b.extractLsb' 0 2 = b ∧
    b.extractLsb' 4 4 ++ bit (b.getLsbD 3) ++ bit (b.getLsbD 2) ++ bit (b.getLsbD 1) ++ bit (b.getLsbD 0) = b ∧
    b.extractLsb' 4 4 ++ b.extractLsb' 0 4 = b ∧
    b.extractLsb' 4 4 ++ bit (b.getLsbD 3) ++ bit (b.getLsbD 2) ++ b.extractLsb' 0 2 = b ∧
    b.extractLsb' 4 4 ++ b.extractLsb' 2 2 ++ bit (b.getLsbD 1) ++ bit (b.getLsbD 0) = b ∧
    b.extractLsb' 4 4 ++ b.extractLsb' 1 3 ++ bit (b.getLsbD 0) = b := by
  have whole : b.extractLsb' 0 8 = b := BitVec.extractLsb'_eq_self
  simp only [bit_getLsbD, BitVec.extractLsb'_append_extractLsb'_eq_extractLsb']
  exact ⟨whole, whole, whole, whole, whole, whole⟩

/-- An octet whose high nibble is none of the PDU types 0 to 7 is `1xxxxxxx` (R132). -/
theorem one_append_extractLsb' (a : Byte) (h : 7 < (a.extractLsb' 4 4).toNat) : 0b1#1 ++ a.extractLsb' 0 7 = a := by
  revert a
  decide

/-! ## The encoding of what octets decode to -/

theorem encode_decodeHeader (ft dst src : Byte) (len : Half) (hcrc : Byte) :
    encode (decodeHeader ft dst src len hcrc) = Machine.headerOctets ft dst src len hcrc :=
  decodeHeader_cases (motive := fun ft i => encode i = Machine.headerOctets ft dst src len hcrc) dst src len hcrc
    rfl rfl rfl rfl rfl rfl rfl rfl (fun _ => rfl) (fun _ => rfl) (fun _ => rfl) (fun _ => rfl) (fun _ => rfl) ft

theorem encode_decodeApdu (a : Byte) : encode (decodeApdu a) = [a] := by
  obtain ⟨-, gmax, xxxx, gmxx, xxnv, xxxv⟩ := fields_rejoin a
  have singleton {b : Byte} (h : b = a) : [b] = [a] := congrArg ([·]) h
  rw [decodeApdu]
  split
  case h_1 type => exact singleton (type ▸ gmax)
  case h_2 type => exact singleton (type ▸ xxxx)
  case h_3 type => exact singleton (type ▸ xxxx)
  case h_4 type => exact singleton (type ▸ gmxx)
  case h_5 type => exact singleton (type ▸ xxnv)
  case h_6 type => exact singleton (type ▸ xxxx)
  case h_7 type => exact singleton (type ▸ xxxx)
  case h_8 type => exact singleton (type ▸ xxxv)
  case h_9 n0 n1 n2 n3 n4 n5 n6 n7 =>
    have type : 7 < (a.extractLsb' 4 4).toNat := by
      simp only [imp_false] at n0 n1 n2 n3 n4 n5 n6 n7
      bv_omega
    exact singleton (one_append_extractLsb' a type)

theorem encode_decodeNpduControl (c : Byte) : encode (decodeNpduControl c) = [c] := by
  obtain ⟨nrdrsepp, -⟩ := fields_rejoin c
  exact congrArg ([·]) nrdrsepp

/-! ## The position at which they decode -/

theorem position_decodeHeader (ft dst src : Byte) (len : Half) (hcrc : Byte) :
    (decodeHeader ft dst src len hcrc).position = .wire :=
  decodeHeader_cases (motive := fun _ i => i.position = .wire) dst src len hcrc
    rfl rfl rfl rfl rfl rfl rfl rfl (fun _ => rfl) (fun _ => rfl) (fun _ => rfl) (fun _ => rfl) (fun _ => rfl) ft

theorem position_decodeApdu (a : Byte) : (decodeApdu a).position = .apdu := by
  unfold decodeApdu
  split <;> rfl

/-! ## Every instruction is decoded from some octets -/

theorem decodeApdu_confirmedRequest : ∀ g m a x : Bool,
    decodeApdu (0b0000#4 ++ bit g ++ bit m ++ bit a ++ bit x) = .apduConfirmedRequest g m a x := by decide

theorem decodeApdu_unconfirmedRequest : ∀ x, decodeApdu (0b0001#4 ++ x) = .apduUnconfirmedRequest x := by decide

theorem decodeApdu_simpleAck : ∀ x, decodeApdu (0b0010#4 ++ x) = .apduSimpleAck x := by decide

theorem decodeApdu_complexAck : ∀ g m x,
    decodeApdu (0b0011#4 ++ bit g ++ bit m ++ x) = .apduComplexAck g m x := by decide

theorem decodeApdu_segmentAck : ∀ x n v,
    decodeApdu (0b0100#4 ++ x ++ bit n ++ bit v) = .apduSegmentAck x n v := by decide

theorem decodeApdu_error : ∀ x, decodeApdu (0b0101#4 ++ x) = .apduError x := by decide

theorem decodeApdu_reject : ∀ x, decodeApdu (0b0110#4 ++ x) = .apduReject x := by decide

theorem decodeApdu_abort : ∀ x v, decodeApdu (0b0111#4 ++ x ++ bit v) = .apduAbort x v := by decide

theorem decodeApdu_reserved : ∀ x, decodeApdu (0b1#1 ++ x) = .apduReserved x := by decide

theorem decodeNpduControl_fields : ∀ n r6 d r4 s e p,
    decodeNpduControl (bit n ++ bit r6 ++ bit d ++ bit r4 ++ bit s ++ bit e ++ p) = .npduControl n r6 d r4 s e p := by
  decide

/-- Every instruction is the row of a frame type, of an APDU octet 0 or of an NPDU control octet. -/
theorem exists_decoded (i : Instr) :
    (∃ ft dst src len hcrc, decodeHeader ft dst src len hcrc = i) ∨ (∃ a, decodeApdu a = i) ∨
      ∃ c, decodeNpduControl c = i := by
  cases i with
  | token d s n c => exact .inl ⟨0x00, d, s, n, c, rfl⟩
  | pfm d s n c => exact .inl ⟨0x01, d, s, n, c, rfl⟩
  | rpfm d s n c => exact .inl ⟨0x02, d, s, n, c, rfl⟩
  | testRequest d s n c => exact .inl ⟨0x03, d, s, n, c, rfl⟩
  | testResponse d s n c => exact .inl ⟨0x04, d, s, n, c, rfl⟩
  | der d s n c => exact .inl ⟨0x05, d, s, n, c, rfl⟩
  | dner d s n c => exact .inl ⟨0x06, d, s, n, c, rfl⟩
  | replyPostponed d s n c => exact .inl ⟨0x07, d, s, n, c, rfl⟩
  | reserved08 t d s n c => exact .inl ⟨_, d, s, n, c, decodeHeader_reserved08 d s n c t⟩
  | reserved10 t d s n c => exact .inl ⟨_, d, s, n, c, decodeHeader_reserved10 d s n c t⟩
  | reserved20 t d s n c => exact .inl ⟨_, d, s, n, c, decodeHeader_reserved20 d s n c t⟩
  | reserved40 t d s n c => exact .inl ⟨_, d, s, n, c, decodeHeader_reserved40 d s n c t⟩
  | proprietary t d s n c => exact .inl ⟨_, d, s, n, c, decodeHeader_proprietary d s n c t⟩
  | apduConfirmedRequest g m a x => exact .inr (.inl ⟨_, decodeApdu_confirmedRequest g m a x⟩)
  | apduUnconfirmedRequest x => exact .inr (.inl ⟨_, decodeApdu_unconfirmedRequest x⟩)
  | apduSimpleAck x => exact .inr (.inl ⟨_, decodeApdu_simpleAck x⟩)
  | apduComplexAck g m x => exact .inr (.inl ⟨_, decodeApdu_complexAck g m x⟩)
  | apduSegmentAck x n v => exact .inr (.inl ⟨_, decodeApdu_segmentAck x n v⟩)
  | apduError x => exact .inr (.inl ⟨_, decodeApdu_error x⟩)
  | apduReject x => exact .inr (.inl ⟨_, decodeApdu_reject x⟩)
  | apduAbort x v => exact .inr (.inl ⟨_, decodeApdu_abort x v⟩)
  | apduReserved x => exact .inr (.inl ⟨_, decodeApdu_reserved x⟩)
  | npduControl n r6 d r4 s e p => exact .inr (.inr ⟨_, decodeNpduControl_fields n r6 d r4 s e p⟩)

/-! ## What the wire decoder accepts (R110, R111) -/

/-- The octets the decoder accepts on the wire are those of a whole header, and it answers the header's row. -/
theorem decodeFrame_eq_ok_iff {bs rest : List Byte} {i : Instr} :
    decodeFrame bs = .ok (i, rest) ↔ ∃ ft dst src len hcrc,
      Machine.headerOctets ft dst src len hcrc ++ rest = bs ∧ decodeHeader ft dst src len hcrc = i := by
  constructor
  · intro h
    unfold decodeFrame at h
    split at h
    case h_1 p1 p2 ft dst src hi lo hcrc after =>
      split at h
      · cases h
      next hp1 =>
      split at h
      · cases h
      next hp2 =>
      obtain ⟨rfl, rfl⟩ : p1 = Machine.preamble1 ∧ p2 = Machine.preamble2 := ⟨not_not.mp hp1, not_not.mp hp2⟩
      cases h
      refine ⟨ft, dst, src, Machine.joinOctets hi lo, hcrc, ?_, rfl⟩
      simp [Machine.headerOctets, Machine.coveredOctets]
    case h_2 => cases h
  · rintro ⟨ft, dst, src, len, hcrc, rfl, rfl⟩
    exact decodeFrame_headerOctets ft dst src len hcrc rest

/-- Octets hold a whole header when there are eight of them and they begin with the preamble. -/
theorem exists_headerOctets_append_iff (bs : List Byte) :
    (∃ ft dst src len hcrc rest, Machine.headerOctets ft dst src len hcrc ++ rest = bs) ↔
      8 ≤ bs.length ∧ bs[0]? = some 0x55 ∧ bs[1]? = some 0xFF := by
  constructor
  · rintro ⟨ft, dst, src, len, hcrc, rest, rfl⟩
    exact ⟨by simp [Machine.headerOctets, Machine.coveredOctets], rfl, rfl⟩
  · rintro ⟨hlen, hp1, hp2⟩
    match bs, hlen with
    | p1 :: p2 :: ft :: dst :: src :: hi :: lo :: hcrc :: rest, _ =>
      obtain rfl : p1 = 0x55 := Option.some.inj hp1
      obtain rfl : p2 = 0xFF := Option.some.inj hp2
      exact ⟨ft, dst, src, Machine.joinOctets hi lo, hcrc, rest, by
        simp [Machine.headerOctets, Machine.coveredOctets, Machine.preamble1, Machine.preamble2]⟩

/-! ## The statements -/

/-- Settles O1: the instruction is what some octets decode to, its encoding is those octets, and they decode again. -/
theorem decodeEncode : Obligations.DecodeEncode := by
  intro i rest
  obtain ⟨ft, dst, src, len, hcrc, rfl⟩ | ⟨a, rfl⟩ | ⟨c, rfl⟩ := exists_decoded i
  · rw [position_decodeHeader, encode_decodeHeader]
    exact decodeFrame_headerOctets ft dst src len hcrc rest
  · rw [position_decodeApdu, encode_decodeApdu]
    rfl
  · rw [encode_decodeNpduControl]
    rfl

/-- What octets decode to at a position belongs there, and its encoding is the octets read. -/
theorem encode_of_decode {p : Position} {bs rest : List Byte} {i : Instr} (h : decode p bs = .ok (i, rest)) :
    i.position = p ∧ encode i ++ rest = bs := by
  match p, bs with
  | .wire, bs =>
    obtain ⟨ft, dst, src, len, hcrc, rfl, rfl⟩ := decodeFrame_eq_ok_iff.mp h
    exact ⟨position_decodeHeader ft dst src len hcrc, by rw [encode_decodeHeader]⟩
  | .apdu, a :: after =>
    cases h
    exact ⟨position_decodeApdu a, by rw [encode_decodeApdu, List.singleton_append]⟩
  | .npdu, c :: after =>
    cases h
    exact ⟨rfl, by rw [encode_decodeNpduControl, List.singleton_append]⟩

/-- Settles O2: by position; and on the wire a header is accepted whatever its type, so the preamble and the length
decide. -/
theorem encodeDecode : Obligations.EncodeDecode := by
  refine ⟨fun _ _ _ _ => encode_of_decode, fun bs => ?_⟩
  rw [← exists_headerOctets_append_iff]
  constructor
  · rintro ⟨i, rest, h⟩
    obtain ⟨ft, dst, src, len, hcrc, hbs, -⟩ := decodeFrame_eq_ok_iff.mp h
    exact ⟨ft, dst, src, len, hcrc, rest, hbs⟩
  · rintro ⟨ft, dst, src, len, hcrc, rest, hbs⟩
    exact ⟨_, rest, decodeFrame_eq_ok_iff.mpr ⟨ft, dst, src, len, hcrc, hbs, rfl⟩⟩

/-- Settles O3: each word is the encoding of its instruction, so it decodes to it by O1. -/
theorem decodeWrittenWords : Obligations.DecodeWrittenWords :=
  ⟨decodeEncode (.token 2 1 0 0x73) [], decodeEncode (.der 2 1 6 0xE9) [0x01],
    decodeEncode (.proprietary 0x0A 0x10 0x05 0x0102 0) [], decodeEncode (.apduComplexAck true false 0) [0x2A],
    decodeEncode (.npduControl false false true false false true 2) []⟩

end Sys2Proof
end

section
/-!
The Frame Codec (40_frame_codec.md). A round of either CRC is one linear, injective map on the accumulators, so the
check octets a receiver accepts are unique; and what a receiver accepts is what CONSTRUCT_FRAME lays out.
-/

namespace Sys2Proof.Machine

/-! ## One round of a CRC, for any width and polynomial (R150, R152) -/

/-- A round of the two CRC updates, which differ in the width and the polynomial `p` only. -/
def crcRound {w : Nat} (p c : BitVec w) : BitVec w := if c.getLsbD 0 then (c >>> 1) ^^^ p else c >>> 1

theorem crc8Shift_eq : crc8Shift = crcRound 0x81 := rfl

theorem crc16Shift_eq : crc16Shift = crcRound 0x8408 := rfl

theorem crcRound_of_even {w : Nat} (p : BitVec w) {c : BitVec w} (h : c.getLsbD 0 = false) :
    crcRound p c = c >>> 1 := by
  simp [crcRound, h]

/-- A round is linear: it shifts, and the polynomial folds in where exactly one of the summands is odd. -/
theorem crcRound_xor {w : Nat} (p x y : BitVec w) : crcRound p (x ^^^ y) = crcRound p x ^^^ crcRound p y := by
  simp only [crcRound, BitVec.getLsbD_xor, BitVec.ushiftRight_xor_distrib]
  cases x.getLsbD 0 <;> cases y.getLsbD 0
  · rfl
  · simp [BitVec.xor_assoc]
  · simp only [Bool.xor_false, if_true, Bool.false_eq_true, if_false]
    ac_rfl
  · have cancel : x >>> 1 ^^^ p ^^^ (y >>> 1 ^^^ p) = x >>> 1 ^^^ y >>> 1 ^^^ (p ^^^ p) := by ac_rfl
    simp [cancel]

/-- The top bit of a polynomial tells after a round whether it was folded in. -/
theorem msb_crcRound {w : Nat} {p : BitVec w} (hp : p.msb = true) (c : BitVec w) :
    (crcRound p c).msb = c.getLsbD 0 := by
  unfold crcRound
  cases hc : c.getLsbD 0 <;> simp [hp]

/-- A round loses nothing: the low bit it shifts out is the result's top bit. -/
theorem crcRound_injective {w : Nat} {p : BitVec w} (hp : p.msb = true) : Function.Injective (crcRound p) := by
  intro x y h
  have low : x.getLsbD 0 = y.getLsbD 0 := by rw [← msb_crcRound hp, h, msb_crcRound hp]
  have rest : x >>> 1 = y >>> 1 := by
    unfold crcRound at h
    rw [low] at h
    split at h
    · exact BitVec.xor_left_inj p |>.mp h
    · exact h
  refine BitVec.eq_of_getLsbD_eq fun i _ => ?_
  cases i with
  | zero => exact low
  | succ j => simpa [Nat.add_comm] using congrArg (·.getLsbD j) rest

/-! ## The eight rounds of an update -/

theorem eightTimes_injective {α : Type} {f : α → α} (hf : Function.Injective f) :
    Function.Injective (eightTimes f) :=
  hf.iterate 8

theorem eightTimes_crcRound_xor {w : Nat} (p x y : BitVec w) :
    eightTimes (crcRound p) (x ^^^ y) = eightTimes (crcRound p) x ^^^ eightTimes (crcRound p) y := by
  simp only [eightTimes, crcRound_xor]

/-- An octet above eight zero bits moves down unchanged: no round meets an odd accumulator. -/
theorem eightTimes_crcRound_of_low_zero {w : Nat} (p : BitVec w) {c : BitVec w}
    (h : ∀ i < 8, c.getLsbD i = false) : eightTimes (crcRound p) c = c >>> 8 := by
  have shifted : ∀ i ≤ 8, (crcRound p)^[i] c = c >>> i := by
    intro i hi
    induction i with
    | zero => simp
    | succ i ih =>
      rw [Function.iterate_succ_apply', ih (by omega), crcRound_of_even p (by simpa using h i hi),
        BitVec.shiftRight_add]
  exact shifted 8 le_rfl

/-! ## A 16-bit value by its two octets -/

theorem setWidth_eq_joinOctets (lo : Byte) : lo.setWidth 16 = joinOctets 0#8 lo :=
  BitVec.setWidth_eq_append (by decide)

theorem joinOctets_xor (hi lo hi' lo' : Byte) :
    joinOctets hi lo ^^^ joinOctets hi' lo' = joinOctets (hi ^^^ hi') (lo ^^^ lo') :=
  BitVec.xor_append

theorem joinOctets_xor_setWidth (hi lo d : Byte) :
    joinOctets hi lo ^^^ d.setWidth 16 = joinOctets hi (lo ^^^ d) := by
  rw [setWidth_eq_joinOctets, joinOctets_xor, BitVec.xor_zero]

theorem joinOctets_and_low (hi lo : Byte) : joinOctets hi lo &&& 0x00FF = lo.setWidth 16 := by
  have mask : (0x00FF : Half) = joinOctets 0#8 (BitVec.allOnes 8) := by decide
  rw [mask, joinOctets, joinOctets, BitVec.and_append, BitVec.and_zero, BitVec.and_allOnes, setWidth_eq_joinOctets,
    joinOctets]

theorem joinOctets_ushiftRight (hi lo : Byte) : joinOctets hi lo >>> 8 = hi.setWidth 16 := by
  apply BitVec.eq_of_toNat_eq
  rw [BitVec.toNat_ushiftRight, toNat_joinOctets, BitVec.toNat_setWidth_of_le (by decide), Nat.shiftRight_eq_div_pow]
  omega

/-! ## The closed forms (R150, R152) -/

/-- Eight rounds on a 16-bit value: the high octet moves down, and only the low octet meets the polynomial. -/
theorem crc16_rounds_joinOctets (hi lo : Byte) :
    eightTimes crc16Shift (joinOctets hi lo) = hi.setWidth 16 ^^^ eightTimes crc16Shift (lo.setWidth 16) := by
  have octets : joinOctets hi lo = joinOctets hi 0#8 ^^^ lo.setWidth 16 := by
    rw [joinOctets_xor_setWidth, BitVec.zero_xor]
  have high : eightTimes (crcRound 0x8408) (joinOctets hi 0#8) = hi.setWidth 16 := by
    rw [eightTimes_crcRound_of_low_zero, joinOctets_ushiftRight]
    intro i hlt
    rw [joinOctets, BitVec.getLsbD_append, if_pos hlt, BitVec.getLsbD_zero]
  rw [octets, crc16Shift_eq, eightTimes_crcRound_xor, high]

/-- R150's closed form in the octet `x = c ^^^ d`, for each of its 256 values. -/
theorem crc8_rounds_closed_form (x : Byte) :
    let t : Half := x.setWidth 16
    let t := t ^^^ (t <<< 1) ^^^ (t <<< 2) ^^^ (t <<< 3) ^^^ (t <<< 4) ^^^ (t <<< 5) ^^^ (t <<< 6) ^^^ (t <<< 7)
    eightTimes crc8Shift x = ((t &&& 0x00FE) ^^^ ((t >>> 8) &&& 1)).setWidth 8 := by
  revert x
  decide

/-- R152's closed form of what an octet alone contributes, for each of its 256 values. -/
theorem crc16_rounds_closed_form (x : Byte) :
    let l : Half := x.setWidth 16
    eightTimes crc16Shift l =
      (l <<< 8) ^^^ (l <<< 3) ^^^ (l <<< 12) ^^^ (l >>> 4) ^^^ (l &&& 0x000F) ^^^ ((l &&& 0x000F) <<< 7) := by
  revert x
  decide

/-- Settles O13: CRC-8 acts on the octet `c ^^^ d`; of the 16-bit value `c ^^^ d` CRC-16 moves the high octet down and
runs through the low one, and an octet has its closed form. -/
theorem crcClosedForms : Obligations.CrcClosedForms := by
  refine ⟨fun d c => crc8_rounds_closed_form (c ^^^ d), fun d c => ?_⟩
  obtain ⟨hi, lo, rfl⟩ : ∃ hi lo, c = joinOctets hi lo := ⟨_, _, (joinOctets_hi_lo c).symm⟩
  intro l
  have hl : l = (lo ^^^ d).setWidth 16 := by rw [BitVec.setWidth_xor, ← joinOctets_and_low hi]
  rw [crc16Update, joinOctets_xor_setWidth, crc16_rounds_joinOctets, joinOctets_ushiftRight,
    crc16_rounds_closed_form, ← hl]
  simp only [BitVec.xor_assoc]

/-! ## The check octets the receive side accepts (R151, R153) -/

theorem crc8_rounds_injective : Function.Injective (eightTimes crc8Shift) :=
  eightTimes_injective (crcRound_injective (p := 0x81) (by decide))

theorem crc16_rounds_injective : Function.Injective (eightTimes crc16Shift) :=
  eightTimes_injective (crcRound_injective (p := 0x8408) (by decide))

theorem xor_eq_iff_eq_xor {w : Nat} (c x r : BitVec w) : c ^^^ x = r ↔ x = c ^^^ r := by
  constructor <;> rintro rfl <;> rw [← BitVec.xor_assoc, BitVec.xor_self, BitVec.zero_xor]

/-- The residue of CRC-8 is left by the complement of the accumulator and by no other octet. -/
theorem crc8Update_eq_residue_iff (d c : Byte) : crc8Update d c = crc8Residue ↔ d = c ^^^ 0xFF := by
  have residue : crc8Residue = eightTimes crc8Shift 0xFF := by decide
  rw [crc8Update, residue, crc8_rounds_injective.eq_iff, xor_eq_iff_eq_xor]

/-- Two octets run through CRC-16 one after the other are one 16-bit value run through sixteen rounds. -/
theorem crc16Update_crc16Update (lo hi : Byte) (c : Half) :
    crc16Update hi (crc16Update lo c) = eightTimes crc16Shift (eightTimes crc16Shift (c ^^^ joinOctets hi lo)) := by
  have eight : crc16Update lo c ^^^ hi.setWidth 16 = eightTimes crc16Shift (c ^^^ joinOctets hi lo) := by
    rw [crc16Update, crc16Shift_eq, eightTimes_crcRound_xor, eightTimes_crcRound_xor, ← crc16Shift_eq,
      crc16_rounds_joinOctets, BitVec.xor_assoc, BitVec.xor_comm (hi.setWidth 16)]
  rw [crc16Update, eight]

/-- The residue of CRC-16 is left by the complement of the accumulator, low octet first, and by no other two octets. -/
theorem crc16Update_eq_residue_iff (lo hi : Byte) (c : Half) :
    crc16Update hi (crc16Update lo c) = crc16Residue ↔ joinOctets hi lo = c ^^^ 0xFFFF := by
  have half : eightTimes crc16Shift 0xFFFF = 0x0F87 := by decide
  have residue : crc16Residue = eightTimes crc16Shift (eightTimes crc16Shift 0xFFFF) := by
    rw [half]
    decide
  rw [crc16Update_crc16Update, residue, crc16_rounds_injective.eq_iff, crc16_rounds_injective.eq_iff,
    xor_eq_iff_eq_xor]

theorem joinOctets_eq_iff (hi lo : Byte) (n : Half) : joinOctets hi lo = n ↔ lo = loOctet n ∧ hi = hiOctet n := by
  constructor
  · rintro rfl
    simp
  · rintro ⟨rfl, rfl⟩
    simp

theorem headerOk_iff (ft dst src : Byte) (len : Half) (c : Byte) :
    headerOk ft dst src len c = true ↔ c = headerCrc ft dst src len := by
  rw [headerOk, beq_iff_eq, crc8Over, List.foldl_append]
  exact crc8Update_eq_residue_iff c _

theorem crc16Over_append_eq_residue_iff (data : List Byte) (lo hi : Byte) :
    crc16Over crc16Init (data ++ [lo, hi]) = crc16Residue ↔
      lo = loOctet (dataCrc data) ∧ hi = hiOctet (dataCrc data) := by
  rw [← joinOctets_eq_iff, crc16Over, List.foldl_append]
  exact crc16Update_eq_residue_iff lo hi _

/-- Settles O14: both residues are the image, under injective rounds, of the complemented accumulator. -/
theorem residueExact : Obligations.ResidueExact :=
  ⟨headerOk_iff, crc16Over_append_eq_residue_iff⟩

/-! ## The layout of a frame (R110, R154, R155) -/

/-- The octets of a frame after its header: nothing, or the data and its CRC, low octet first (R115). -/
def bodyOctets (data : List Byte) : List Byte :=
  if data.length > 0 then data ++ [loOctet (dataCrc data), hiOctet (dataCrc data)] else []

/-- CONSTRUCT_FRAME as a header and a body. -/
theorem constructFrame_eq (ft dst src : Byte) (data : List Byte) (cap : Nat) :
    constructFrame ft dst src data cap =
      if frameLength data.length > cap then []
      else
        headerOctets ft dst src (BitVec.ofNat 16 data.length)
          (headerCrc ft dst src (BitVec.ofNat 16 data.length)) ++ bodyOctets data := by
  unfold constructFrame bodyOctets
  by_cases hd : data.length > 0
  · simp only [hd, if_true, List.append_assoc]
  · simp only [hd, if_false, List.append_nil]

theorem hiOctet_ofNat {n : Nat} (h : n ≤ 65535) : hiOctet (BitVec.ofNat 16 n) = BitVec.ofNat 8 (n / 256) := by
  apply BitVec.eq_of_toNat_eq
  rw [toNat_hiOctet, BitVec.toNat_ofNat, BitVec.toNat_ofNat]
  omega

theorem loOctet_ofNat (n : Nat) : loOctet (BitVec.ofNat 16 n) = BitVec.ofNat 8 (n % 256) := by
  apply BitVec.eq_of_toNat_eq
  rw [toNat_loOctet, BitVec.toNat_ofNat, BitVec.toNat_ofNat]
  omega

/-- Settles O11: header and body written out, the length in two octets. -/
theorem frameLayout : Obligations.FrameLayout := by
  intro ft dst src data cap hlen n header k
  have covered : coveredOctets ft dst src (BitVec.ofNat 16 n) = header := by
    rw [coveredOctets, hiOctet_ofNat hlen, loOctet_ofNat]
  rw [constructFrame_eq, headerOctets, headerCrc, covered]
  rfl

/-! ## Parsing what was constructed (R156, R157, R159) -/

/-- A header with its own CRC passes PARSE_FRAME, which goes on to the body. -/
theorem parseFrame_headerOctets (ft dst src : Byte) (len : Half) (body : List Byte) :
    parseFrame (headerOctets ft dst src len (headerCrc ft dst src len) ++ body) =
      if len.toNat = 0 then (if body.isEmpty then some (ft, dst, src, []) else none)
      else if body.length != len.toNat + 2 then none
      else if crc16Over crc16Init body != crc16Residue then none
      else some (ft, dst, src, body.take len.toNat) := by
  have crc : crc8Over crc8Init [ft, dst, src, hiOctet len, loOctet len, headerCrc ft dst src len] = crc8Residue :=
    beq_iff_eq.mp ((headerOk_iff ft dst src len _).mpr rfl)
  simp [headerOctets, coveredOctets, parseFrame, crc]

/-- Settles O12: the frame fits, its header passes by its own CRC, and its body by the residue of the data CRC. -/
theorem parseConstruct : Obligations.ParseConstruct := by
  intro c ft dst src data hc hlen
  have hlen16 : data.length ≤ 65535 := hlen.trans hc.maxPdu_le
  have len : (BitVec.ofNat 16 data.length).toNat = data.length := by
    rw [BitVec.toNat_ofNat]
    omega
  have fits : ¬ frameLength data.length > c.outCap := by
    unfold frameLength Config.outCap
    split <;> omega
  rw [constructFrame_eq, if_neg fits, parseFrame_headerOctets, len]
  cases data with
  | nil => rfl
  | cons b bs =>
    have crc := (crc16Over_append_eq_residue_iff (b :: bs) _ _).mpr ⟨rfl, rfl⟩
    simpa [bodyOctets] using crc

/-! ## TRANSMIT (R158) -/

/-- Settles O15: `transmit_eq` as the rule's five effects, the copied octets read by index. -/
theorem transmitSpec : Obligations.TransmitSpec := by
  intro ft dst src data s f t
  have buffer (a : Nat) : t.output_buffer.read a = if a < f.length then f[a]? else s.output_buffer.read a := by
    simp [t, f, transmitFrame, Memory.read_writeSeq]
  refine ⟨rfl, transmit_tx_stream .., transmit_silence_ms .., fun a ha => ?_, fun a ha => ?_, ?_⟩
  · rw [buffer, if_pos ha]
  · rw [buffer, if_neg (by omega)]
  · simp only [t, transmit_eq]

end Sys2Proof.Machine
end

section
/-!
The Silence Tracker (41_silence_tracker.md): how far TICK counts, and which steps set the counter back. For NODE the key
fact is that no rule but the self-pass of 43_master_fsm.md R264 touches the counter unless it sends octets (R184 b, d).
-/

namespace Sys2Proof.Machine

/-! ## TICK (R183, R185) -/

theorem iterate_tick_cfg (s : State) (n : Nat) : (tick^[n] s).cfg = s.cfg := by
  induction n with
  | zero => rfl
  | succ n ih => rw [Function.iterate_succ_apply', tick_cfg, ih]

/-- From a counter in its range, ticks add up until it is full. -/
theorem iterate_tick_silence_ms {s : State} (hs : s.silence_ms ≤ s.cfg.silenceMax) (n : Nat) :
    (tick^[n] s).silence_ms = min (s.silence_ms + n) s.cfg.silenceMax := by
  induction n with
  | zero => exact (Nat.min_eq_left hs).symm
  | succ n ih =>
    rw [Function.iterate_succ_apply', tick_silence_ms, silenceNext, ih, iterate_tick_cfg]
    omega

/-- A tick never sets a counter in its range back. -/
theorem silence_ms_le_tick {s : State} (hs : s.silence_ms ≤ s.cfg.silenceMax) : s.silence_ms ≤ (tick s).silence_ms :=
  Nat.le_min.mpr ⟨Nat.le_succ _, hs⟩

/-- Settles O16: one tick by its definition, any number of them by induction. -/
theorem tickSaturates : Obligations.TickSaturates :=
  ⟨fun s => ⟨tick s, rfl, rfl, rfl⟩, fun _ n hs => iterate_tick_silence_ms hs n⟩

/-! ## RX (R184 a, c) -/

/-- An octet does not touch the counter once RX_BYTE has reset it, and leaves `rx_stream` alone. -/
theorem rxByte_silence (b : Byte) (rest : List Byte) (s : State) :
    (rxByte b rest s).silence_ms = 0 ∧ (rxByte b rest s).rx_stream = rest := by
  have hw := (rxOctet_writes b (silenceReset { s with rx_stream := rest })).rest
  exact ⟨(congrArg State.silence_ms hw :), (congrArg State.rx_stream hw :)⟩

/-- RX_ABORT is taken whenever it is enabled (42_receive_fsm.md R192, R207). -/
theorem rxStep_of_abort {s : State} (h : abortEnabled s = true) : rxStep s = rxAbort s := by
  have hready : rxReady s = true := by
    simp only [abortEnabled, Bool.and_eq_true] at h
    obtain ⟨⟨hready, -⟩, -⟩ := h
    exact hready
  have hrearm : rearmEnabled s = false := by simp [rearmEnabled, hready]
  simp [rxStep, hrearm, h]

/-- A step of RX takes an octet or gives up a frame, with the counter at 0 after it, or leaves the counter alone. -/
theorem rxStep_silence (s : State) :
    (abortEnabled s = true ∨ (rxStep s).rx_stream ≠ s.rx_stream) ∧ (rxStep s).silence_ms = 0 ∨
      ¬ (abortEnabled s = true ∨ (rxStep s).rx_stream ≠ s.rx_stream) ∧ (rxStep s).silence_ms = s.silence_ms := by
  by_cases ha : abortEnabled s = true
  · exact .inl ⟨.inl ha, by rw [rxStep_of_abort ha]; rfl⟩
  rcases rxStep_cases s with ⟨-, h⟩ | ⟨habort, -⟩ | ⟨-, -, b, rest, hb, h⟩ | h
  · exact .inr ⟨by simp [ha, h, rxRearm], by rw [h]; rfl⟩
  · exact absurd habort ha
  · obtain ⟨hms, hstream⟩ := rxByte_silence b rest s
    exact .inl ⟨.inr (by simp [h, hstream, hb]), by rw [h, hms]⟩
  · exact .inr ⟨by simp [ha, h], by rw [h]⟩

/-! ## NODE (R184 b, d) -/

/-- Between `s` and `t` octets were handed to the port, or the counter is as before. A relation that composes: what was
sent before stays in `tx_stream`. -/
def KeepsSilence (s t : State) : Prop :=
  ∃ f, t.tx_stream = s.tx_stream ++ f ∧ (f = [] → t.silence_ms = s.silence_ms)

namespace KeepsSilence

variable {s t u : State}

/-- Neither field is written. -/
theorem of_eq (htx : t.tx_stream = s.tx_stream) (hms : t.silence_ms = s.silence_ms) : KeepsSilence s t :=
  ⟨[], by rw [htx, List.append_nil], fun _ => hms⟩

theorem refl (s : State) : KeepsSilence s s := of_eq rfl rfl

theorem trans (hu : KeepsSilence s u) (ht : KeepsSilence u t) : KeepsSilence s t := by
  obtain ⟨f, hf, hfms⟩ := hu
  obtain ⟨g, hg, hgms⟩ := ht
  refine ⟨f ++ g, by rw [hg, hf, List.append_assoc], fun h => ?_⟩
  obtain ⟨hnf, hng⟩ := List.append_eq_nil_iff.mp h
  exact (hgms hng).trans (hfms hnf)

theorem transmit (ft dst src : Byte) (data : List Byte) (s : State) : KeepsSilence s (transmit ft dst src data s) :=
  ⟨_, transmit_tx_stream .., fun h => by rw [transmit_silence_ms, h]; rfl⟩

theorem master_state (h : KeepsSilence s t) (m : MasterState) : KeepsSilence s { t with master_state := m } :=
  h.trans (of_eq rfl rfl)

theorem silence_ms_eq (h : KeepsSilence s t) (htx : t.tx_stream = s.tx_stream) : t.silence_ms = s.silence_ms := by
  obtain ⟨f, hf, hms⟩ := h
  exact hms (List.self_eq_append_right.mp (htx.symm.trans hf))

end KeepsSilence

theorem ensures_ite {P : State → Prop} {c : Prop} [Decidable c] {a b : Result} (ha : Ensures a P) (hb : Ensures b P) :
    Ensures (if c then a else b) P := by
  split
  · exact ha
  · exact hb

/-- The rule sends octets or keeps the counter, in whatever state it is taken. -/
def RuleKeeps (rule : State → Result) : Prop := ∀ s, Ensures (rule s) (KeepsSilence s)

/-- A rule that keeps the counter may follow what keeps it. -/
theorem RuleKeeps.after {rule : State → Result} (hr : RuleKeeps rule) {s u : State} (h : KeepsSilence s u) :
    Ensures (rule u) (KeepsSilence s) :=
  (hr u).mono fun _ => h.trans

theorem RuleKeeps.andThen {rule k : State → Result} (hr : RuleKeeps rule) (hk : RuleKeeps k) :
    RuleKeeps fun s => andThen (rule s) k :=
  fun s => ensures_andThen (hr s) fun _ => hk.after

theorem ruleKeeps_nodeDone (more : Bool) : RuleKeeps (nodeDone more) := fun s => ensures_nodeDone (.refl s)

theorem ruleKeeps_dropFrame : RuleKeeps dropFrame := fun s => ruleKeeps_nodeDone false (clearValid s)

theorem ruleKeeps_dropNotForUs : RuleKeeps dropNotForUs := fun s => ruleKeeps_nodeDone false (clearNotForUs s)

theorem ruleKeeps_dropInvalid : RuleKeeps dropInvalid := fun s => ruleKeeps_nodeDone false (clearInvalid s)

theorem ruleKeeps_leaveToIdle : RuleKeeps leaveToIdle :=
  fun _ => (ruleKeeps_nodeDone true).after (.of_eq rfl rfl)

theorem ruleKeeps_takeToken : RuleKeeps takeToken :=
  fun _ => (ruleKeeps_nodeDone true).after (.of_eq rfl rfl)

theorem ruleKeeps_pollStation (p : Byte) : RuleKeeps (pollStation p) :=
  fun s => (ruleKeeps_nodeDone false).after ((KeepsSilence.transmit ftPfm p s.this_station [] s).master_state _)

/-- 43_master_fsm.md R244 to R246: the PFM is sent, or nothing. -/
theorem ruleKeeps_idleQuiet : RuleKeeps idleQuiet := fun s =>
  ensures_ite (ruleKeeps_nodeDone false s)
    (ensures_ite (ruleKeeps_takeToken.after (.of_eq rfl rfl)) ((ruleKeeps_pollStation _).after (.of_eq rfl rfl)))

/-- 43_master_fsm.md R250 to R252. -/
theorem ruleKeeps_useToken : RuleKeeps useToken := by
  intro s
  have hdone : Ensures (nodeDone true { s with master_state := .doneWithToken }) (KeepsSilence s) :=
    (ruleKeeps_nodeDone true).after (.of_eq rfl rfl)
  unfold useToken
  split
  · exact hdone
  · refine ensures_ite hdone (ensures_withOctets fun d => ?_)
    split
    all_goals
      extract_lets u
      have hu : KeepsSilence s u := .transmit ..
      clear_value u
    · exact (ruleKeeps_nodeDone false).after (hu.trans (.of_eq rfl rfl))
    · exact (ruleKeeps_nodeDone true).after (hu.trans (.of_eq rfl rfl))

/-- 43_master_fsm.md R259, R260: removing the request sends nothing. -/
theorem ruleKeeps_waitQuiet : RuleKeeps waitQuiet := by
  intro s
  have hpop : KeepsSilence s (if s.cfg.derTimeoutRetain then s else qPop s) := by
    split
    · exact .refl s
    · exact .of_eq rfl rfl
  exact ensures_ite (ruleKeeps_nodeDone false s) (ensures_nodeDone hpop)

theorem ruleKeeps_doneWithToken : RuleKeeps doneWithToken :=
  fun _ => (ruleKeeps_nodeDone true).after (.of_eq rfl rfl)

/-- 43_master_fsm.md R264: a master that passes the token to itself resets the counter. -/
theorem passToken_self {s : State} (h : s.next_station = s.this_station) :
    Ensures (passToken s) fun t => t.silence_ms = 0 := by
  rw [passToken, if_pos h]
  exact ensures_nodeDone rfl

/-- 43_master_fsm.md R265: to any other station it sends the token. -/
theorem passToken_keepsSilence {s : State} (h : s.next_station ≠ s.this_station) :
    Ensures (passToken s) (KeepsSilence s) := by
  rw [passToken, if_neg h]
  exact (ruleKeeps_nodeDone false).after ((KeepsSilence.transmit ftToken _ _ [] s).master_state _)

/-- 43_master_fsm.md R267 to R269. -/
theorem ruleKeeps_noTokenQuiet : RuleKeeps noTokenQuiet := fun s =>
  ensures_ite
    (ensures_ite (ruleKeeps_takeToken.after (.of_eq rfl rfl)) ((ruleKeeps_pollStation _).after (.of_eq rfl rfl)))
    (ensures_ite ((ruleKeeps_nodeDone true).after (.of_eq rfl rfl)) (ruleKeeps_nodeDone false s))

/-- 43_master_fsm.md R276. -/
theorem ruleKeeps_pollNext : RuleKeeps pollNext := fun s =>
  ensures_ite (ruleKeeps_takeToken s) ((ruleKeeps_pollStation _).after (.of_eq rfl rfl))

theorem ruleKeeps_pollQuiet : RuleKeeps pollQuiet := fun s =>
  ensures_ite (ruleKeeps_nodeDone false s) (ruleKeeps_pollNext s)

theorem ruleKeeps_deliver (src : Byte) (len : Half) : RuleKeeps (deliver src len) := by
  intro s t ht
  rcases deliver_eq_next ht with ⟨data, -, -, -, rfl⟩ | rfl
  · exact .of_eq rfl rfl
  · exact .refl t

theorem ruleKeeps_deliverFrame (src : Byte) (len : Half) : RuleKeeps (deliverFrame src len) :=
  (ruleKeeps_deliver src len).andThen ruleKeeps_dropFrame

theorem buildReply_keepsSilence (src : Byte) (data : List Byte) (s : State) :
    KeepsSilence s (buildReply src data s).2 := by
  rcases buildReply_cases src data s with ⟨r, rest, -, h⟩ | ⟨-, h⟩ <;> rw [h] <;> exact .of_eq rfl rfl

/-- 47_external_interfaces.md R363: asking sends nothing, and the reply is sent by TRANSMIT. -/
theorem ruleKeeps_answer (src : Byte) (len : Half) : RuleKeeps (answer src len) := by
  intro s t ht
  obtain ⟨data, -, h⟩ := answer_eq_next ht
  have hask := buildReply_keepsSilence src data s
  rcases h with ⟨-, rfl⟩ | ⟨r, -, -, rfl⟩
  · exact hask
  · exact hask.trans (.transmit ..)

/-- 43_master_fsm.md R280. -/
theorem ruleKeeps_answerDataRequest : RuleKeeps answerDataRequest := fun s =>
  ensures_andThen (ensures_ite (ruleKeeps_answer _ _ s) (ensures_next (.refl s)))
    fun _ h => (ruleKeeps_nodeDone false).after (h.trans (.of_eq rfl rfl))

/-- 43_master_fsm.md R257, R258, whatever the correlation found. -/
theorem ruleKeeps_finishCorrelation (src : Byte) (len : Half) (found : Except Fault (Option Nat)) :
    RuleKeeps (finishCorrelation src len found) := by
  intro s
  unfold finishCorrelation
  split
  · next k =>
    exact ensures_andThen (ruleKeeps_deliver src len (qPopElement k s))
      fun _ h => (ruleKeeps_nodeDone true).after (h.trans (.of_eq rfl rfl))
  · exact ruleKeeps_dropFrame s
  · exact ensures_fault _

/-- Each rule of the reaction sends octets or keeps the counter. -/
structure FrameReaction.Keeps (r : FrameReaction) : Prop where
  slave : RuleKeeps r.slave
  idle : RuleKeeps r.idle
  waitForReply : RuleKeeps r.waitForReply
  pollForMaster : RuleKeeps r.pollForMaster

section
variable {r : FrameReaction} (hr : r.Keeps)
include hr

theorem ruleKeeps_slaveStep : RuleKeeps (slaveStep r) := fun s =>
  ensures_byFlag (fun _ => hr.slave s) (ruleKeeps_dropNotForUs s) (ruleKeeps_dropInvalid s) (ruleKeeps_nodeDone false s)

/-- Every state of a master but PASS_TOKEN with itself as the successor. -/
theorem masterStep_keepsSilence {s : State} (hpass : s.master_state = .passToken → s.next_station ≠ s.this_station) :
    Ensures (masterStep r s) (KeepsSilence s) := by
  have hleave := ruleKeeps_leaveToIdle s
  have hnot := ruleKeeps_dropNotForUs s
  have hinv := ruleKeeps_dropInvalid s
  unfold masterStep
  cases hs : s.master_state
  case idle => exact ensures_byFlag (fun _ => hr.idle s) hnot hinv (ruleKeeps_idleQuiet s)
  case useToken => exact ruleKeeps_useToken s
  case waitForReply => exact ensures_byFlag (fun _ => hr.waitForReply s) hnot hinv (ruleKeeps_waitQuiet s)
  case doneWithToken => exact ruleKeeps_doneWithToken s
  case passToken => exact passToken_keepsSilence (hpass hs)
  case noToken => exact ensures_byFlag (fun _ => hleave) hleave hleave (ruleKeeps_noTokenQuiet s)
  case pollForMaster =>
    exact ensures_byFlag (fun _ => hr.pollForMaster s) hleave (ruleKeeps_pollNext (clearInvalid s))
      (ruleKeeps_pollQuiet s)
  case answerDataRequest => exact ruleKeeps_answerDataRequest s

end

/-- Most types are dropped as a slave and in WAIT_FOR_REPLY, and end a poll. -/
theorem FrameReaction.Keeps.of_idle {idle : State → Result} (h : RuleKeeps idle) :
    FrameReaction.Keeps ⟨dropFrame, idle, dropFrame, leaveToIdle⟩ :=
  ⟨ruleKeeps_dropFrame, h, ruleKeeps_dropFrame, ruleKeeps_leaveToIdle⟩

/-- Every frame row runs NODE_STEP with such a reaction. -/
theorem exec_frame_keeps {i : Instr} (h : isFrame i) :
    ∃ r : FrameReaction, (∀ s, exec i s = nodeReact r s) ∧ r.Keeps := by
  have hdrop := ruleKeeps_dropFrame
  by_cases hi : isIgnoredType i
  · exact ⟨_, exec_of_isIgnoredType hi, .of_idle hdrop⟩
  cases i
  case token dst src len hcrc =>
    exact ⟨_, fun _ => rfl, .of_idle fun s => ensures_ite (ruleKeeps_takeToken (clearValid s)) (hdrop s)⟩
  case pfm dst src len hcrc =>
    exact ⟨_, fun _ => rfl, .of_idle fun s => ensures_ite (hdrop.after (.transmit ..)) (hdrop s)⟩
  case rpfm dst src len hcrc =>
    exact ⟨_, fun _ => rfl, hdrop, hdrop, hdrop,
      fun s => ensures_ite (ensures_nodeDone (.of_eq rfl rfl)) (ruleKeeps_leaveToIdle s)⟩
  case der dst src len hcrc =>
    have hbcast (s : State) : Ensures (if bcast dst then deliverFrame src len s else dropFrame s) (KeepsSilence s) :=
      ensures_ite (ruleKeeps_deliverFrame src len s) (hdrop s)
    exact ⟨_, fun _ => rfl,
      fun s => ensures_ite ((ruleKeeps_answer src len).andThen hdrop s) (hbcast s),
      fun s => ensures_ite (ensures_nodeDone (.of_eq rfl rfl)) (hbcast s), hdrop, ruleKeeps_leaveToIdle⟩
  case dner dst src len hcrc =>
    have hdeliver : RuleKeeps fun s => if forUs dst s || bcast dst then deliverFrame src len s else dropFrame s :=
      fun s => ensures_ite (ruleKeeps_deliverFrame src len s) (hdrop s)
    exact ⟨_, fun _ => rfl, hdeliver, hdeliver,
      fun s => ensures_ite (ensures_withOctets fun p => ruleKeeps_finishCorrelation src len _ s) (hdrop s),
      ruleKeeps_leaveToIdle⟩
  -- What is left is an ignored type, or no frame row.
  all_goals first | exact absurd trivial hi | cases h

/-- The token pass of a master whose successor is itself (43_master_fsm.md R264). -/
def SelfPass (s : State) : Prop :=
  isMaster s = true ∧ s.master_state = .passToken ∧ s.next_station = s.this_station

theorem nodeStep_selfPass {s : State} (h : SelfPass s) : Ensures (nodeStep s) fun t => t.silence_ms = 0 := by
  obtain ⟨hm, hs, hself⟩ := h
  obtain ⟨r, hexec⟩ := exec_frame (fetch s) (isFrame_fetch s)
  rw [nodeStep, hexec, nodeReact_of_master r hm, masterStep_passToken r hs]
  exact passToken_self hself

theorem nodeStep_keepsSilence {s : State} (h : ¬ SelfPass s) : Ensures (nodeStep s) (KeepsSilence s) := by
  obtain ⟨r, hexec, hr⟩ := exec_frame_keeps (isFrame_fetch s)
  rw [nodeStep, hexec]
  cases hm : isMaster s
  case false =>
    rw [nodeReact_of_slave r hm]
    exact ruleKeeps_slaveStep hr s
  case true =>
    rw [nodeReact_of_master r hm]
    exact masterStep_keepsSilence hr fun hs hself => h ⟨hm, hs, hself⟩

/-- A step of NODE sends octets or passes the token to itself, with the counter at 0 after it, or leaves the counter
alone. -/
theorem nodeStep_silence (s : State) : Ensures (nodeStep s) fun t =>
    (t.tx_stream ≠ s.tx_stream ∨ SelfPass s) ∧ t.silence_ms = 0 ∨
      ¬ (t.tx_stream ≠ s.tx_stream ∨ SelfPass s) ∧ t.silence_ms = s.silence_ms := by
  intro t ht
  by_cases hself : SelfPass s
  · exact .inl ⟨.inr hself, nodeStep_selfPass hself t ht⟩
  by_cases htx : t.tx_stream = s.tx_stream
  · exact .inr ⟨by simp [hself, htx], (nodeStep_keepsSilence hself t ht).silence_ms_eq htx⟩
  · obtain ⟨f, -, hf, -, hms⟩ := (exec_effect _ s t ht).sent
    have hne : f ≠ [] := by
      rintro rfl
      exact htx (hf.trans (List.append_nil _))
    exact .inl ⟨.inl htx, hms hne⟩

/-! ## The boundary, and every event -/

theorem Sends.silence_ms_eq {s t : State} (h : Sends s t) : t.silence_ms = s.silence_ms := by
  rcases h with ⟨result, rfl⟩ | ⟨dest, pdu, er, result, -, rfl⟩ <;> rfl

theorem Receives.silence_ms_eq {s t : State} (h : Receives s t) : t.silence_ms = s.silence_ms := by
  obtain ⟨ready, left, result, rfl, -, -⟩ := h
  rfl

/-- Neither the port nor the host touches the counter. -/
theorem runEvent_boundary_silence {e : Event} (htick : e ≠ .tick) (hrx : e ≠ .rx) (hnode : e ≠ .node)
    (hreset : e ≠ .reset) (s : State) : Ensures (runEvent e s) fun t => t.silence_ms = s.silence_ms := by
  cases e
  case tick => exact absurd rfl htick
  case rx => exact absurd rfl hrx
  case node => exact absurd rfl hnode
  case reset => exact absurd rfl hreset
  case send dest pdu er => exact (send_sends dest pdu er s).mono fun _ => Sends.silence_ms_eq
  case receive => exact (receive_receives s).mono fun _ => Receives.silence_ms_eq
  case receiveCall timeout => exact (receiveCall_receives timeout s).mono fun _ => Receives.silence_ms_eq
  case receiveRetry => exact (receiveRetry_receives s).mono fun _ => Receives.silence_ms_eq
  case setMacAddress a => exact ensures_next (by rcases setMacAddress_cases a s with ⟨-, h⟩ | h <;> rw [h])
  case setMaxMaster m => exact ensures_next (by rcases setMaxMaster_cases m s with ⟨-, h⟩ | h <;> rw [h])
  case setMaxInfoFrames n => exact ensures_next (by rcases setMaxInfoFrames_cases n s with ⟨-, h⟩ | h <;> rw [h])
  all_goals exact ensures_next rfl

/-- Settles O17, agent by agent: RX and NODE by what their steps do to the counter, TICK by its saturation. -/
theorem silenceResets : Obligations.SilenceResets := by
  intro e s t hs ht octet sent abort selfPass
  -- Each agent either resets the counter, in a way of R184, or does not lower it.
  suffices h : (octet ∨ sent ∨ abort ∨ selfPass ∨ e = .reset) ∧ t.silence_ms = 0 ∨
      ¬ (octet ∨ sent ∨ abort ∨ selfPass ∨ e = .reset) ∧ s.silence_ms ≤ t.silence_ms by
    rcases h with ⟨hreset, hzero⟩ | ⟨hkept, hle⟩
    · exact ⟨fun _ => hzero, fun _ => hreset⟩
    · exact ⟨fun hreset => absurd hreset hkept, fun hlt => absurd hle (by omega)⟩
  by_cases htick : e = .tick
  · subst htick
    obtain rfl := Host.Outcome.next.inj ht
    exact .inr ⟨by simp [octet, sent, abort, selfPass], silence_ms_le_tick hs⟩
  by_cases hrx : e = .rx
  · subst hrx
    obtain rfl := Host.Outcome.next.inj ht
    rcases rxStep_silence s with ⟨hreset, hzero⟩ | ⟨hkept, hms⟩
    · exact .inl ⟨by simpa [octet, sent, abort, selfPass, or_comm] using hreset, hzero⟩
    · exact .inr ⟨by simpa [octet, sent, abort, selfPass, and_comm] using hkept, hms.ge⟩
  by_cases hnode : e = .node
  · subst hnode
    rcases nodeStep_silence s t ht with ⟨hreset, hzero⟩ | ⟨hkept, hms⟩
    · exact .inl ⟨by simpa [octet, sent, abort, selfPass, SelfPass] using hreset, hzero⟩
    · exact .inr ⟨by simpa [octet, sent, abort, selfPass, SelfPass] using hkept, hms.ge⟩
  by_cases hreset : e = .reset
  · subst hreset
    obtain rfl := Host.Outcome.next.inj ht
    exact .inl ⟨by simp, rfl⟩
  · exact .inr ⟨by simp [octet, sent, abort, selfPass, hrx, hnode, hreset],
      (runEvent_boundary_silence htick hrx hnode hreset s t ht).ge⟩

end Sys2Proof.Machine
end

section
/-!
The Receive Frame State Machine, one step at a time (42_receive_fsm.md R191 to R207): which operation of RX is taken,
and what an octet does in each state.
-/

namespace Sys2Proof.Machine

variable {s : State} {b : Byte} {rest : List Byte}

/-! ## When a frame is given up (R207) -/

theorem abortEnabled_eq_true :
    abortEnabled s = true ↔ rxReady s = true ∧ s.rx_state ≠ .preamble1 ∧ s.cfg.tFrameAbort ≤ s.silence_ms := by
  simp only [abortEnabled, Bool.and_eq_true, bne_iff_ne, decide_eq_true_eq, and_assoc]
  rfl

theorem abortEnabled_eq_false (h : s.rx_state = .preamble1 ∨ s.silence_ms < s.cfg.tFrameAbort) :
    abortEnabled s = false := by
  rw [Bool.eq_false_iff]
  intro habort
  obtain ⟨-, hp1, hms⟩ := abortEnabled_eq_true.mp habort
  exact h.elim hp1 (Nat.not_lt.mpr hms)

/-- RX_REARM is taken whenever it is enabled (R191). -/
theorem rxStep_of_rearm (h : rearmEnabled s = true) : rxStep s = rxRearm s := by
  simp [rxStep, h]

theorem rxReady_eq_false : rxReady s = false ↔ s.rx_state = .idle ∨ s.rx_state = .done := by
  simp only [rxReady, Bool.and_eq_false_iff, bne_eq_false_iff_eq]

/-- At rest RX re-arms unless a flag is raised (R191). -/
theorem rxStep_of_rest (h : rxReady s = false) : rxStep s = if anyFlag s then s else rxRearm s := by
  cases hf : anyFlag s <;> simp [rxStep, rearmEnabled, abortEnabled, h, hf]

/-! ## The effect of an octet, state by state (R192) -/

/-- An octet taken is the state's effect on it, once it has left `rx_stream` and the counter is 0 (R192). -/
theorem runEvent_rx_of_octet (hs : s.rx_stream = b :: rest) (hr : rxReady s = true)
    (ha : s.rx_state = .preamble1 ∨ s.silence_ms < s.cfg.tFrameAbort) :
    runEvent .rx s = .next (rxOctet b (silenceReset { s with rx_stream := rest })) :=
  congrArg Host.Outcome.next (rxStep_of_byte hr (abortEnabled_eq_false ha) hs)

theorem rxOctet_of_rest (h : rxReady s = false) : rxOctet b s = s := by
  unfold rxOctet
  cases hs : s.rx_state <;> simp [rxReady, hs] at h <;> rfl

theorem rxOctet_of_preamble1 (h : s.rx_state = .preamble1) : rxOctet b s = rxPreamble1 b s := by
  simp only [rxOctet, h]

theorem rxOctet_of_preamble2 (h : s.rx_state = .preamble2) : rxOctet b s = rxPreamble2 b s := by
  simp only [rxOctet, h]

theorem rxOctet_of_header (h : s.rx_state = .header) : rxOctet b s = rxHeader b s := by
  simp only [rxOctet, h]

theorem rxOctet_of_headerCrcCheck (h : s.rx_state = .headerCrcCheck) : rxOctet b s = rxHeaderCrcCheck b s := by
  simp only [rxOctet, h]

theorem rxOctet_of_data (h : s.rx_state = .data) : rxOctet b s = rxData b s := by
  simp only [rxOctet, h]

theorem rxOctet_of_dataCrcCheck (h : s.rx_state = .dataCrcCheck) : rxOctet b s = rxDataCrcCheck b s := by
  simp only [rxOctet, h]

/-! ## The outcome of a frame (R205) -/

theorem completeFrame_forUs (h : s.rx_destination = s.this_station ∨ s.rx_destination = 255) :
    completeFrame s = { s with rx_state := .done, valid_frame := true } :=
  (classify_cases { s with rx_state := .done }).elim (·.2) fun hn => absurd h hn.1

theorem completeFrame_notForUs (h : ¬ (s.rx_destination = s.this_station ∨ s.rx_destination = 255)) :
    completeFrame s = { s with rx_state := .done, valid_frame_not_for_us := true } :=
  (classify_cases { s with rx_state := .done }).elim (fun hd => absurd hd.1 h) (·.2)

/-- A completed frame raises the flag its destination gives, and no other. -/
theorem completeFrame_eq (s : State) :
    completeFrame s =
      { s with
        rx_state := .done
        valid_frame := s.valid_frame || decide (s.rx_destination = s.this_station ∨ s.rx_destination = 255)
        valid_frame_not_for_us :=
          s.valid_frame_not_for_us || decide ¬ (s.rx_destination = s.this_station ∨ s.rx_destination = 255) } := by
  by_cases hd : s.rx_destination = s.this_station ∨ s.rx_destination = 255
  · rw [completeFrame_forUs hd, decide_eq_true hd, decide_eq_false (not_not_intro hd), Bool.or_true, Bool.or_false]
  · rw [completeFrame_notForUs hd, decide_eq_false hd, decide_eq_true hd, Bool.or_true, Bool.or_false]

/-! ## The preamble (R193 to R197) -/

theorem rxPreamble1_of_start (h : b = preamble1) : rxPreamble1 b s = { s with rx_state := .preamble2 } := if_pos h

theorem rxPreamble1_of_noise (h : b ≠ preamble1) : rxPreamble1 b s = s := if_neg h

theorem rxPreamble2_of_header (h : b = preamble2) :
    rxPreamble2 b s = { s with rx_index := 0, rx_header_crc := crc8Init, rx_state := .header } :=
  if_pos h

theorem rxPreamble2_of_repeat (h : b = preamble1) : rxPreamble2 b s = s :=
  (if_neg (by rw [h]; decide)).trans (if_pos h)

theorem rxPreamble2_of_bad (hff : b ≠ preamble2) (h55 : b ≠ preamble1) : rxPreamble2 b s = discardFrame s :=
  (if_neg hff).trans (if_neg h55)

/-- In PREAMBLE_1 no frame has been started that could be given up (R193, R194, R207). -/
theorem rxStep_invalid_frame_of_preamble1 (h : s.rx_state = .preamble1) :
    (rxStep s).invalid_frame = s.invalid_frame := by
  rcases rxStep_cases s with ⟨-, hstep⟩ | ⟨habort, -⟩ | ⟨-, -, b, rest, -, hstep⟩ | hstep
  · rw [hstep]
    rfl
  · rw [abortEnabled_eq_false (.inl h)] at habort
    cases habort
  · rw [hstep, rxByte, rxOctet_of_preamble1 (by exact h)]
    by_cases hb : b = preamble1
    · rw [rxPreamble1_of_start hb]
      rfl
    · rw [rxPreamble1_of_noise hb]
      rfl
  · rw [hstep]

/-! ## The two CRC checks (R200 to R206) -/

theorem rxHeaderCrcCheck_of_bad (h : crc8Update b s.rx_header_crc ≠ crc8Residue) :
    rxHeaderCrcCheck b s = discardFrame { s with rx_header_crc := crc8Update b s.rx_header_crc } :=
  if_pos h

theorem rxHeaderCrcCheck_of_empty (h : crc8Update b s.rx_header_crc = crc8Residue) (hlen : s.rx_data_length = 0) :
    rxHeaderCrcCheck b s = completeFrame { s with rx_header_crc := crc8Update b s.rx_header_crc } :=
  (if_neg (not_not_intro h)).trans (if_pos hlen)

theorem rxHeaderCrcCheck_of_data (h : crc8Update b s.rx_header_crc = crc8Residue) (hlen : s.rx_data_length ≠ 0) :
    rxHeaderCrcCheck b s =
      { s with
        rx_header_crc := crc8Update b s.rx_header_crc, rx_index := 0, rx_data_crc := crc16Init, rx_state := .data } :=
  (if_neg (not_not_intro h)).trans (if_neg hlen)

theorem rxDataCrcCheck_of_first (hi : s.rx_index = 0) :
    rxDataCrcCheck b s = { s with rx_data_crc := crc16Update b s.rx_data_crc, rx_index := 1 } :=
  if_pos hi

theorem rxDataCrcCheck_of_good (hi : s.rx_index ≠ 0) (h : crc16Update b s.rx_data_crc = crc16Residue)
    (hlen : s.rx_data_length.toNat ≤ s.cfg.maxPdu) :
    rxDataCrcCheck b s = completeFrame { s with rx_data_crc := crc16Update b s.rx_data_crc, rx_index := 2 } :=
  (if_neg hi).trans (if_pos ⟨h, hlen⟩)

theorem rxDataCrcCheck_of_bad (hi : s.rx_index ≠ 0)
    (h : ¬ (crc16Update b s.rx_data_crc = crc16Residue ∧ s.rx_data_length.toNat ≤ s.cfg.maxPdu)) :
    rxDataCrcCheck b s = discardFrame { s with rx_data_crc := crc16Update b s.rx_data_crc, rx_index := 2 } :=
  (if_neg hi).trans (if_neg h)

theorem joinOctets_zero (b : Byte) : joinOctets b 0 = BitVec.ofNat 16 (b.toNat * 256) := by
  apply BitVec.eq_of_toNat_eq
  rw [toNat_joinOctets, BitVec.toNat_ofNat]
  have := b.isLt
  simp only [BitVec.ofNat_eq_ofNat, BitVec.toNat_ofNat]
  omega

end Sys2Proof.Machine
end

section
/-!
The obligations about a single step of RX. The theorems' own namespace keeps their names apart from the functions'.
-/

namespace Sys2Proof.Machine.RxSteps

/-- Settles O18: each operation is taken when it is enabled, and a premise of each clause rules RX_ABORT out. -/
theorem rxRearmAndAbort : Obligations.RxRearmAndAbort := by
  refine ⟨fun s hs hf => ?_, fun s hs hms => ?_, fun s t ht => ?_⟩
  · obtain ⟨hv, hn, hi⟩ := hf
    have hrearm : rearmEnabled s = true := by
      rcases hs with hs | hs <;> simp [rearmEnabled, rxReady, anyFlag, hs, hv, hn, hi]
    exact congrArg Host.Outcome.next (rxStep_of_rearm hrearm)
  · have habort : abortEnabled s = true := by
      rcases hs with hs | hs | hs | hs | hs <;> simp [abortEnabled_eq_true, rxReady, hs, hms]
    exact congrArg Host.Outcome.next (rxStep_of_abort habort)
  · obtain rfl : rxStep s = t := Host.Outcome.next.inj ht
    refine ⟨fun hs hf => by rw [rxStep_of_rest (rxReady_eq_false.mpr hs), if_pos hf], fun hs => ?_,
      fun hlt hempty => ?_⟩
    · rcases or_assoc.mpr hs with hs | hs
      · rw [rxStep_of_rest (rxReady_eq_false.mpr hs)]
        split <;> rfl
      · exact rxStep_invalid_frame_of_preamble1 hs
    · rcases rxStep_cases s with ⟨-, h⟩ | ⟨habort, -⟩ | ⟨-, -, b, rest, hstream, -⟩ | h
      · rw [h]
        rfl
      · obtain ⟨-, -, hms⟩ := abortEnabled_eq_true.mp habort
        exact absurd hlt (Nat.not_lt.mpr hms)
      · exact absurd (hempty.symm.trans hstream) (List.cons_ne_nil b rest).symm
      · rw [h]

/-- Settles O19, octet by octet. -/
theorem rxPreamble : Obligations.RxPreamble := by
  intro s b rest hs
  have first (hp1 : s.rx_state = .preamble1) :
      runEvent .rx s = .next (rxPreamble1 b (silenceReset { s with rx_stream := rest })) := by
    rw [runEvent_rx_of_octet hs (by simp [rxReady, hp1]) (.inl hp1), rxOctet_of_preamble1 (by exact hp1)]
  have second (hp2 : s.rx_state = .preamble2) (hms : s.silence_ms < s.cfg.tFrameAbort) :
      runEvent .rx s = .next (rxPreamble2 b (silenceReset { s with rx_stream := rest })) := by
    rw [runEvent_rx_of_octet hs (by simp [rxReady, hp2]) (.inr hms), rxOctet_of_preamble2 (by exact hp2)]
  refine ⟨fun hp1 hb => ?_, fun hp1 hb => ?_, fun hp2 hms hb => ?_, fun hp2 hms hb => ?_, fun hp2 hms hFF h55 => ?_⟩
  · rw [first hp1, rxPreamble1_of_start hb]
    rfl
  · rw [first hp1, rxPreamble1_of_noise hb]
    rfl
  · rw [second hp2 hms, rxPreamble2_of_header hb]
    rfl
  · rw [second hp2 hms, rxPreamble2_of_repeat hb]
    rfl
  · rw [second hp2 hms, rxPreamble2_of_bad hFF h55]
    rfl

/-- Settles O20: `rxHeader_eq` at each index. -/
theorem rxHeader : Obligations.RxHeader := by
  intro s b rest hs hstate hms u
  have step : runEvent .rx s = .next (Machine.rxHeader b (silenceReset { s with rx_stream := rest })) := by
    rw [runEvent_rx_of_octet hs (by simp [rxReady, hstate]) (.inr hms), rxOctet_of_header (by exact hstate)]
  rw [step, rxHeader_eq, storeHeaderOctet_eq]
  refine ⟨fun hi => ?_, fun hi => ?_, fun hi => ?_, fun hi => ?_, fun hi => ?_⟩
  · simp [hi, u, silenceReset]
  · simp [hi, u, silenceReset]
  · simp [hi, u, silenceReset]
  · simp [hi, u, silenceReset, ← joinOctets_zero]
  · simp [hi, u, silenceReset, joinOctets, hiOctet]

/-- Settles O21, by the three outcomes of the check and the two of the filter. -/
theorem rxHeaderCrcCheck : Obligations.RxHeaderCrcCheck := by
  intro s b rest hs hstate hms c u
  have step : runEvent .rx s = .next (Machine.rxHeaderCrcCheck b (silenceReset { s with rx_stream := rest })) := by
    rw [runEvent_rx_of_octet hs (by simp [rxReady, hstate]) (.inr hms), rxOctet_of_headerCrcCheck (by exact hstate)]
  rw [step]
  refine ⟨fun hc => ?_, fun hc hlen hd => ?_, fun hc hlen hd => ?_, fun hc hlen => ?_⟩
  · rw [rxHeaderCrcCheck_of_bad (by exact hc)]
    rfl
  · rw [rxHeaderCrcCheck_of_empty (by exact hc) (by exact hlen), completeFrame_forUs (by exact hd)]
    rfl
  · rw [rxHeaderCrcCheck_of_empty (by exact hc) (by exact hlen), completeFrame_notForUs (by exact hd)]
    rfl
  · rw [rxHeaderCrcCheck_of_data (by exact hc) (by exact hlen)]
    rfl

/-- Settles O22: the buffer after the step is the one `rxData_eq` writes. -/
theorem rxData : Obligations.RxData := by
  intro s b rest hs hstate hms
  refine ⟨if s.rx_index.toNat < s.cfg.maxPdu then s.input_buffer.write s.rx_index.toNat b else s.input_buffer,
    fun hroom => ?_, fun a ha => ?_, ?_⟩
  · rw [if_pos hroom, Memory.read_write_same]
  · split
    · exact Memory.read_write_other _ b (by omega)
    · rfl
  · rw [runEvent_rx_of_octet hs (by simp [rxReady, hstate]) (.inr hms), rxOctet_of_data (by exact hstate), rxData_eq]
    simp [silenceReset, hstate]

/-- Settles O23, by the three outcomes of the check and the two of the filter. -/
theorem rxDataCrcCheck : Obligations.RxDataCrcCheck := by
  intro s b rest hs hstate hms c u
  have step : runEvent .rx s = .next (Machine.rxDataCrcCheck b (silenceReset { s with rx_stream := rest })) := by
    rw [runEvent_rx_of_octet hs (by simp [rxReady, hstate]) (.inr hms), rxOctet_of_dataCrcCheck (by exact hstate)]
  have second (hi : s.rx_index = 1) : (silenceReset { s with rx_stream := rest }).rx_index ≠ 0 := by
    simp [hi]
  rw [step]
  refine ⟨fun hi => ?_, fun hi hc hlen hd => ?_, fun hi hc hlen hd => ?_, fun hi hbad => ?_⟩
  · rw [rxDataCrcCheck_of_first (by exact hi)]
    rfl
  · rw [rxDataCrcCheck_of_good (second hi) (by exact hc) (by exact hlen), completeFrame_forUs (by exact hd)]
    rfl
  · rw [rxDataCrcCheck_of_good (second hi) (by exact hc) (by exact hlen), completeFrame_notForUs (by exact hd)]
    rfl
  · rw [rxDataCrcCheck_of_bad (second hi) fun ⟨hc, hlen⟩ => hbad.elim (· hc) (Nat.not_lt.mpr hlen)]
    rfl

end Sys2Proof.Machine.RxSteps
end

section
/-!
A change of one octet changes a CRC accumulator (40_frame_codec.md R159): each update is injective in the octet and in
the accumulator, so the difference a changed octet makes is never undone by the octets after it.
-/

namespace Sys2Proof.Machine

section
variable {α β : Type} {f : α → β → α}

theorem foldl_injective (hacc : ∀ b, Function.Injective fun a => f a b) (xs : List β) :
    Function.Injective fun a => xs.foldl f a := by
  induction xs with
  | nil => exact fun _ _ h => h
  | cons x xs ih => exact ih.comp (hacc x)

theorem foldl_set_ne (hacc : ∀ b, Function.Injective fun a => f a b) (hoct : ∀ a, Function.Injective (f a))
    {xs : List β} {k : Nat} {b : β} (hk : k < xs.length) (hb : xs[k]? ≠ some b) (a : α) :
    (xs.set k b).foldl f a ≠ xs.foldl f a := by
  induction xs generalizing k a with
  | nil => exact absurd hk (Nat.not_lt_zero k)
  | cons x xs ih =>
    cases k with
    | zero =>
      intro h
      have hx : b = x := hoct a (foldl_injective hacc xs h)
      exact hb (by rw [hx]; rfl)
    | succ k => exact ih (Nat.lt_of_succ_lt_succ hk) hb (f a x)

end

theorem crc8Update_injective_octet (c : Byte) : Function.Injective fun d => crc8Update d c := fun _ _ h =>
  (BitVec.xor_right_inj c).mp (crc8_rounds_injective h)

theorem crc8Update_injective_acc (d : Byte) : Function.Injective (crc8Update d) := fun _ _ h =>
  (BitVec.xor_left_inj d).mp (crc8_rounds_injective h)

theorem setWidth_octet_injective : Function.Injective fun d : Byte => d.setWidth 16 := fun d e h => by
  simpa [setWidth_eq_joinOctets] using congrArg loOctet h

theorem crc16Update_injective_octet (c : Half) : Function.Injective fun d => crc16Update d c := fun _ _ h =>
  setWidth_octet_injective ((BitVec.xor_right_inj c).mp (crc16_rounds_injective h))

theorem crc16Update_injective_acc (d : Byte) : Function.Injective (crc16Update d) := fun _ _ h =>
  (BitVec.xor_left_inj (d.setWidth 16)).mp (crc16_rounds_injective h)

section
variable {bs : List Byte} {k : Nat} {b : Byte} (hk : k < bs.length) (hb : bs[k]? ≠ some b)
include hk hb

theorem crc8Over_set_ne (c : Byte) : crc8Over c (bs.set k b) ≠ crc8Over c bs :=
  foldl_set_ne crc8Update_injective_acc crc8Update_injective_octet hk hb c

theorem crc16Over_set_ne (c : Half) : crc16Over c (bs.set k b) ≠ crc16Over c bs :=
  foldl_set_ne crc16Update_injective_acc crc16Update_injective_octet hk hb c

end

theorem crc16Over_append (c : Half) (bs cs : List Byte) :
    crc16Over c (bs ++ cs) = crc16Over (crc16Over c bs) cs :=
  List.foldl_append

/-! ## The octet an update was made with (entry 13) -/

theorem crc8Unshift_crc8Shift : ∀ c : Byte, crc8Unshift (crc8Shift c) = c := by decide

/-- Eight rounds undone one by one leave the octet and the accumulator they started from. -/
theorem crc8Received_crc8Update (d c : Byte) : crc8Received c (crc8Update d c) = d := by
  simp only [crc8Received, crc8Update, eightTimes, crc8Unshift_crc8Shift]
  rw [BitVec.xor_comm c d, BitVec.xor_assoc, BitVec.xor_self, BitVec.xor_zero]

end Sys2Proof.Machine
end

section
/-!
RX fed with the octets of a frame, the clock left out: what it has read after the preamble, the header, the data and the
two checks (42_receive_fsm.md R193 to R206).
-/

namespace Sys2Proof.Machine

variable {s t u : State} {b : Byte} {bs cs : List Byte}

/-- The effect of the octets `bs`, one after the other. -/
def rxOctets (bs : List Byte) (s : State) : State := bs.foldl (fun t b => rxOctet b t) s

theorem rxOctets_append (bs cs : List Byte) (s : State) : rxOctets (bs ++ cs) s = rxOctets cs (rxOctets bs s) :=
  List.foldl_append

theorem rxOctets_of_rest (h : rxReady s = false) (bs : List Byte) : rxOctets bs s = s := by
  induction bs with
  | nil => rfl
  | cons b bs ih => rwa [rxOctets, List.foldl_cons, rxOctet_of_rest h]

/-- RX is ready for each of the octets `bs` when it comes, and is in the state `t` after the last. -/
inductive RxPasses : List Byte → State → State → Prop where
  | nil (s : State) : RxPasses [] s s
  | cons {b : Byte} {bs : List Byte} {s t : State} (ready : rxReady s = true) (rest : RxPasses bs (rxOctet b s) t) :
      RxPasses (b :: bs) s t

namespace RxPasses

theorem single (h : rxReady s = true) : RxPasses [b] s (rxOctet b s) := .cons h (.nil _)

theorem append (h : RxPasses bs s u) (h' : RxPasses cs u t) : RxPasses (bs ++ cs) s t := by
  induction h with
  | nil _ => exact h'
  | cons ready _ ih => exact .cons ready (ih h')

theorem rxOctets_eq (h : RxPasses bs s t) : rxOctets bs s = t := by
  induction h with
  | nil _ => rfl
  | cons _ _ ih => exact ih

/-- RX never comes back from rest by an octet: if it is ready after `bs`, it was ready for each of them. -/
theorem of_ready (h : rxOctets bs s = t) (ready : rxReady t = true) : RxPasses bs s t := by
  induction bs generalizing s with
  | nil =>
    subst h
    exact .nil _
  | cons b bs ih =>
    refine .cons ?_ (ih h)
    by_contra hrest
    rw [rxOctets_of_rest (Bool.eq_false_iff.mpr hrest)] at h
    exact hrest (h ▸ ready)

end RxPasses

/-! ## The preamble and the header -/

/-- RX before the first octet of a header. -/
def headerStart (s : State) : State := { s with rx_index := 0, rx_header_crc := crc8Init, rx_state := .header }

theorem headerStart_self (hs : s.rx_state = .header) (hi : s.rx_index = 0) (hc : s.rx_header_crc = crc8Init) :
    headerStart s = s := by
  cases s
  subst hs hi hc
  rfl

/-- RX with the five covered octets of a header read. -/
def headerRead (ft dst src hi lo : Byte) (s : State) : State :=
  { s with
    rx_frame_type := ft
    rx_destination := dst
    rx_source := src
    rx_data_length := joinOctets hi lo
    rx_header_crc := crc8Over crc8Init [ft, dst, src, hi, lo]
    rx_index := 5
    rx_state := .headerCrcCheck }

theorem passes_preamble (hs : s.rx_state = .preamble1) : RxPasses [preamble1, preamble2] s (headerStart s) := by
  cases s
  subst hs
  exact .cons rfl (.cons rfl (.nil _))

theorem passes_covered (ft dst src hi lo : Byte) (s : State) :
    RxPasses [ft, dst, src, hi, lo] (headerStart s) (headerRead ft dst src hi lo s) := by
  refine .of_ready ?_ rfl
  simp [rxOctets, rxOctet, headerStart, headerRead, rxHeader_eq, storeHeaderOctet_eq, crc8Over]

theorem passes_header (ft dst src hi lo crc : Byte) (s : State) :
    RxPasses [ft, dst, src, hi, lo, crc] (headerStart s) (rxHeaderCrcCheck crc (headerRead ft dst src hi lo s)) :=
  (passes_covered ft dst src hi lo s).append (.single rfl)

/-- NODE fetches the header registers, whatever the check of the header said. -/
theorem fetchOctets_rxHeaderCrcCheck (crc : Byte) (s : State) :
    fetchOctets (rxHeaderCrcCheck crc s) =
      headerOctets s.rx_frame_type s.rx_destination s.rx_source s.rx_data_length
        (crc8Received
          (crc8Over crc8Init (coveredOctets s.rx_frame_type s.rx_destination s.rx_source s.rx_data_length))
          (crc8Update crc s.rx_header_crc)) := by
  rcases rxHeaderCrcCheck_cases crc s with ⟨-, h⟩ | ⟨-, -, h⟩ | ⟨-, -, h⟩ <;> rw [h]
  · rfl
  · rw [completeFrame_eq]
    rfl
  · rfl

/-- Settles O6: the accumulator before and after the CRC octet gives the octet back. -/
theorem fetchedAsReceived : Obligations.FetchedAsReceived := by
  intro s ft dst src hi lo crc hs hidx hcrc
  have octets := (passes_header ft dst src hi lo crc s).rxOctets_eq
  rw [headerStart_self hs hidx hcrc, rxOctets] at octets
  rw [octets, fetchOctets_rxHeaderCrcCheck]
  simp [headerRead, headerOctets, coveredOctets, crc8Over, crc8Received_crc8Update, preamble1, preamble2]

/-! ## The data -/

/-- Below `MAX_PDU`, an octet of data that is not the last is stored and counted (R203). -/
theorem rxOctet_data_next (hs : s.rx_state = .data) (hlen : s.rx_index + 1 ≠ s.rx_data_length)
    (hroom : s.rx_index.toNat < s.cfg.maxPdu) :
    rxOctet b s =
      { s with
        rx_data_crc := crc16Update b s.rx_data_crc
        input_buffer := s.input_buffer.write s.rx_index.toNat b
        rx_index := s.rx_index + 1 } := by
  rw [rxOctet_of_data hs, rxData_eq, if_pos hroom, if_neg hlen, if_neg hlen]

theorem rxOctet_data_last (hs : s.rx_state = .data) (hlen : s.rx_index + 1 = s.rx_data_length)
    (hroom : s.rx_index.toNat < s.cfg.maxPdu) :
    rxOctet b s =
      { s with
        rx_data_crc := crc16Update b s.rx_data_crc
        input_buffer := s.input_buffer.write s.rx_index.toNat b
        rx_index := 0
        rx_state := .dataCrcCheck } := by
  rw [rxOctet_of_data hs, rxData_eq, if_pos hroom, if_pos hlen, if_pos hlen]

/-- RX with all the data `data` of a frame read. -/
def dataRead (data : List Byte) (s : State) : State :=
  { s with
    rx_data_crc := crc16Over s.rx_data_crc data
    input_buffer := s.input_buffer.writeSeq s.rx_index.toNat data
    rx_index := 0
    rx_state := .dataCrcCheck }

/-- From index `rx_index` on, the octets still due are stored one after the other. -/
theorem passes_data {data : List Byte} (hne : data ≠ []) (hs : s.rx_state = .data)
    (hdue : s.rx_index.toNat + data.length = s.rx_data_length.toNat)
    (hfits : s.rx_data_length.toNat ≤ s.cfg.maxPdu) : RxPasses data s (dataRead data s) := by
  induction data generalizing s with
  | nil => exact absurd rfl hne
  | cons b data ih =>
    have hready : rxReady s = true := by simp [rxReady, hs]
    have hbound := s.rx_data_length.isLt
    rw [List.length_cons] at hdue
    have hnext : (s.rx_index + 1).toNat = s.rx_index.toNat + 1 := by
      simp only [BitVec.toNat_add, BitVec.ofNat_eq_ofNat, BitVec.toNat_ofNat]
      omega
    have hroom : s.rx_index.toNat < s.cfg.maxPdu := by omega
    refine .cons hready ?_
    by_cases hlast : data = []
    · subst hlast
      have hlen : s.rx_index + 1 = s.rx_data_length := BitVec.eq_of_toNat_eq (by rw [hnext]; exact hdue)
      rw [rxOctet_data_last hs hlen hroom]
      exact .nil _
    · have hpos : 0 < data.length := List.length_pos_iff.mpr hlast
      have hlen : s.rx_index + 1 ≠ s.rx_data_length := by
        intro h
        rw [← h, hnext] at hdue
        omega
      rw [rxOctet_data_next hs hlen hroom]
      have htail := ih (s := { s with
          rx_data_crc := crc16Update b s.rx_data_crc
          input_buffer := s.input_buffer.write s.rx_index.toNat b
          rx_index := s.rx_index + 1 }) hlast hs (by dsimp only; omega) hfits
      simp only [dataRead, hnext] at htail ⊢
      exact htail

/-! ## The data CRC -/

/-- RX with both CRC octets of a frame read. -/
def dataCrcRead (lo hi : Byte) (s : State) : State :=
  { s with rx_data_crc := crc16Over s.rx_data_crc [lo, hi], rx_index := 2 }

/-- The outcome of a frame with data: `good` when the accumulator ends at the residue. -/
def dataOutcome (good : Prop) [Decidable good] (s : State) : State :=
  if good then completeFrame s else discardFrame s

theorem passes_dataCrc (hs : s.rx_state = .dataCrcCheck) (hidx : s.rx_index = 0)
    (hfits : s.rx_data_length.toNat ≤ s.cfg.maxPdu) (lo hi : Byte) :
    RxPasses [lo, hi] s (dataOutcome (crc16Over s.rx_data_crc [lo, hi] = crc16Residue) (dataCrcRead lo hi s)) := by
  have acc : crc16Over s.rx_data_crc [lo, hi] = crc16Update hi (crc16Update lo s.rx_data_crc) := rfl
  have first : rxOctet lo s = { s with rx_data_crc := crc16Update lo s.rx_data_crc, rx_index := 1 } := by
    rw [rxOctet_of_dataCrcCheck hs, rxDataCrcCheck_of_first hidx]
  have second : rxOctet hi (rxOctet lo s) =
      dataOutcome (crc16Over s.rx_data_crc [lo, hi] = crc16Residue) (dataCrcRead lo hi s) := by
    have hne : (1 : Half) ≠ 0 := by decide
    rw [first, rxOctet_of_dataCrcCheck (by exact hs), acc, dataOutcome, dataCrcRead, acc]
    by_cases hgood : crc16Update hi (crc16Update lo s.rx_data_crc) = crc16Residue
    · rw [if_pos hgood, rxDataCrcCheck_of_good (by exact hne) (by exact hgood) (by exact hfits)]
    · rw [if_neg hgood, rxDataCrcCheck_of_bad (by exact hne) (by exact fun h => hgood h.1)]
  rw [← second]
  exact .cons (by simp [rxReady, hs]) (.single (by simp [first, rxReady, hs]))

/-- After a header, data that fits the buffer is accepted or not by the accumulator alone (R204, R206). -/
theorem passes_body {data : List Byte} (hne : data ≠ []) (hs : s.rx_state = .data) (hidx : s.rx_index = 0)
    (hdue : data.length = s.rx_data_length.toNat) (hfits : s.rx_data_length.toNat ≤ s.cfg.maxPdu) (lo hi : Byte) :
    RxPasses (data ++ [lo, hi]) s
      (dataOutcome (crc16Over s.rx_data_crc (data ++ [lo, hi]) = crc16Residue)
        (dataCrcRead lo hi (dataRead data s))) := by
  have hdata : RxPasses data s (dataRead data s) := passes_data hne hs (by simpa [hidx] using hdue) hfits
  have hcrc := passes_dataCrc (s := dataRead data s) rfl rfl hfits lo hi
  simp only [crc16Over_append]
  exact hdata.append hcrc

end Sys2Proof.Machine
end

section
/-!
RX fed with a whole frame, the clock left out: a constructed frame is completed, one with a changed octet after the
preamble is discarded (42_receive_fsm.md R209 c, d).
-/

namespace Sys2Proof.Machine

variable {s : State} {ft dst src : Byte} {len : Half} {data body : List Byte}

/-! ## A header with its own CRC -/

/-- RX with a right header read, the CRC octet included. -/
def headerAccepted (ft dst src : Byte) (len : Half) (s : State) : State :=
  { s with
    rx_frame_type := ft
    rx_destination := dst
    rx_source := src
    rx_data_length := len
    rx_header_crc := crc8Residue
    rx_index := 5
    rx_state := .headerCrcCheck }

/-- RX before the first octet of the data. -/
def dataStart (s : State) : State := { s with rx_index := 0, rx_data_crc := crc16Init, rx_state := .data }

theorem headerCrc_residue (ft dst src : Byte) (len : Half) :
    crc8Over crc8Init (coveredOctets ft dst src len ++ [headerCrc ft dst src len]) = crc8Residue :=
  beq_iff_eq.mp ((headerOk_iff ft dst src len _).mpr rfl)

theorem crc8Update_headerRead (a b c d e x : Byte) (s : State) :
    crc8Update x (headerRead a b c d e s).rx_header_crc = crc8Over crc8Init [a, b, c, d, e, x] := rfl

/-- A right header leads to its check with the right accumulator. -/
theorem passes_headerOctets (hs : s.rx_state = .preamble1) (ft dst src : Byte) (len : Half) :
    RxPasses (headerOctets ft dst src len (headerCrc ft dst src len)) s
      (if len = 0 then completeFrame (headerAccepted ft dst src len s)
        else dataStart (headerAccepted ft dst src len s)) := by
  have hpass := (passes_preamble hs).append
    (passes_header ft dst src (hiOctet len) (loOctet len) (headerCrc ft dst src len) s)
  have hcrc :
      crc8Update (headerCrc ft dst src len) (headerRead ft dst src (hiOctet len) (loOctet len) s).rx_header_crc =
        crc8Residue := headerCrc_residue ft dst src len
  have hlen : (headerRead ft dst src (hiOctet len) (loOctet len) s).rx_data_length = len := joinOctets_hi_lo len
  have haccepted : { headerRead ft dst src (hiOctet len) (loOctet len) s with rx_header_crc := crc8Residue } =
      headerAccepted ft dst src len s := by
    rw [headerRead, joinOctets_hi_lo]
    rfl
  rw [← haccepted]
  split
  · next hempty =>
    rw [rxHeaderCrcCheck_of_empty hcrc (hlen.trans hempty), hcrc] at hpass
    exact hpass
  · next hdata =>
    rw [rxHeaderCrcCheck_of_data hcrc (hlen.trans_ne hdata), hcrc] at hpass
    exact hpass

/-! ## A constructed frame -/

/-- The frame of data that fits the buffer fits `OUT_CAP` (R7, R116). -/
theorem constructFrame_outCap {c : Config} (h : data.length ≤ c.maxPdu) (ft dst src : Byte) :
    constructFrame ft dst src data c.outCap =
      headerOctets ft dst src (BitVec.ofNat 16 data.length) (headerCrc ft dst src (BitVec.ofNat 16 data.length)) ++
        bodyOctets data := by
  have fits : ¬ frameLength data.length > c.outCap := by
    unfold frameLength Config.outCap
    split <;> omega
  rw [constructFrame_eq, if_neg fits]

/-- The registers and the buffer of `u` hold the frame; the station and the flags are those of `s`. -/
structure FrameRead (ft dst src : Byte) (data : List Byte) (s u : State) : Prop where
  frame_type : u.rx_frame_type = ft
  destination : u.rx_destination = dst
  source : u.rx_source = src
  length : u.rx_data_length.toNat = data.length
  input : InputIs u u.rx_data_length data
  station : u.this_station = s.this_station
  valid : u.valid_frame = s.valid_frame
  notForUs : u.valid_frame_not_for_us = s.valid_frame_not_for_us
  invalid : u.invalid_frame = s.invalid_frame

theorem bodyOctets_of_ne_nil (h : data ≠ []) :
    bodyOctets data = data ++ [loOctet (dataCrc data), hiOctet (dataCrc data)] :=
  if_pos (List.length_pos_iff.mpr h)

theorem crc16Over_bodyOctets (h : data ≠ []) : crc16Over crc16Init (bodyOctets data) = crc16Residue := by
  rw [bodyOctets_of_ne_nil h]
  exact (crc16Over_append_eq_residue_iff data _ _).mpr ⟨rfl, rfl⟩

theorem toNat_ofNat_length {c : Config} (hc : c.Legal) (h : data.length ≤ c.maxPdu) :
    (BitVec.ofNat 16 data.length).toNat = data.length := by
  have := hc.maxPdu_le
  rw [BitVec.toNat_ofNat]
  omega

/-- RX takes every octet of a constructed frame and completes it with the last (R209 c). -/
theorem passes_constructFrame (hc : s.cfg.Legal) (hs : s.rx_state = .preamble1) (hfits : data.length ≤ s.cfg.maxPdu)
    (ft dst src : Byte) :
    ∃ u, RxPasses (constructFrame ft dst src data s.cfg.outCap) s (completeFrame u) ∧
      FrameRead ft dst src data s u := by
  have hlen := toNat_ofNat_length hc hfits
  have header := passes_headerOctets hs ft dst src (BitVec.ofNat 16 data.length)
  rw [constructFrame_outCap hfits]
  by_cases hdata : data = []
  · subst hdata
    rw [if_pos (by rfl)] at header
    have hinput : InputIs s 0 [] := octetsOf_eq_ok.mpr ⟨Nat.zero_le _, rfl⟩
    refine ⟨headerAccepted ft dst src 0 s, ?_, rfl, rfl, rfl, rfl, hinput, rfl, rfl, rfl, rfl⟩
    rw [bodyOctets, if_neg (by decide), List.append_nil]
    exact header
  · have hne : BitVec.ofNat 16 data.length ≠ 0 := by
      intro h
      have hzero : data.length = 0 := by rw [← hlen, h]; rfl
      exact hdata (List.length_eq_zero_iff.mp hzero)
    rw [if_neg hne] at header
    have hbody := passes_body (s := dataStart (headerAccepted ft dst src (BitVec.ofNat 16 data.length) s)) hdata rfl rfl
      hlen.symm (hlen.trans_le hfits) (loOctet (dataCrc data)) (hiOctet (dataCrc data))
    rw [← bodyOctets_of_ne_nil hdata, dataOutcome, if_pos (by exact crc16Over_bodyOctets hdata)] at hbody
    refine ⟨_, header.append hbody, rfl, rfl, rfl, hlen, ?_, rfl, rfl, rfl, rfl⟩
    refine octetsOf_eq_ok.mpr ⟨hlen.trans_le hfits, ?_⟩
    exact (congrArg _ hlen).trans (Memory.readSeq_writeSeq s.input_buffer data)

/-! ## A damaged frame -/

/-- RX has given up the frame and rests with the flag raised. -/
structure Rejected (s : State) : Prop where
  rx_state : s.rx_state = .idle
  invalid : s.invalid_frame = true
  valid : s.valid_frame = false
  notForUs : s.valid_frame_not_for_us = false

theorem rejected_discardFrame (hv : s.valid_frame = false) (hn : s.valid_frame_not_for_us = false) :
    Rejected (discardFrame s) := ⟨rfl, rfl, hv, hn⟩

theorem Rejected.at_rest (h : Rejected s) : rxReady s = false := rxReady_eq_false.mpr (.inl h.rx_state)

theorem Rejected.rxOctets (h : Rejected s) (bs : List Byte) : Rejected (rxOctets bs s) := by
  rwa [rxOctets_of_rest h.at_rest]

/-- Six octets whose CRC is wrong are discarded, and what follows is not looked at (R201). -/
theorem rejected_of_header {six : List Byte} (hf : NoFlag s) (hs : s.rx_state = .preamble1) (hlen : six.length = 6)
    (hcrc : crc8Over crc8Init six ≠ crc8Residue) (body : List Byte) :
    Rejected (rxOctets (preamble1 :: preamble2 :: (six ++ body)) s) := by
  obtain ⟨hv, hn, -⟩ := hf
  match six, hlen with
  | [a, b, c, d, e, x], _ =>
    have hpass := (passes_preamble hs).append (passes_header a b c d e x s)
    rw [rxHeaderCrcCheck_of_bad (by rw [crc8Update_headerRead]; exact hcrc)] at hpass
    change Rejected (rxOctets (([preamble1, preamble2] ++ [a, b, c, d, e, x]) ++ body) s)
    rw [rxOctets_append, hpass.rxOctets_eq]
    exact (rejected_discardFrame (by exact hv) (by exact hn)).rxOctets body

/-- After a right header, data and CRC octets that leave no residue are discarded (R206). -/
theorem rejected_of_body (hf : NoFlag s) (hs : s.rx_state = .preamble1) (hdata : len ≠ 0)
    (hfits : len.toNat ≤ s.cfg.maxPdu) (hlen : body.length = len.toNat + 2)
    (hcrc : crc16Over crc16Init body ≠ crc16Residue) :
    Rejected (rxOctets (headerOctets ft dst src len (headerCrc ft dst src len) ++ body) s) := by
  obtain ⟨hv, hn, -⟩ := hf
  obtain ⟨lo, hi, htail⟩ := List.length_eq_two.mp (show (body.drop len.toNat).length = 2 by simp [hlen])
  have hsplit : body = body.take len.toNat ++ [lo, hi] := by rw [← htail, List.take_append_drop]
  have hdue : (body.take len.toNat).length = len.toNat := by simp [hlen]
  have hne : body.take len.toNat ≠ [] := by
    intro h
    rw [h] at hdue
    exact hdata (BitVec.eq_of_toNat_eq hdue.symm)
  have header := passes_headerOctets hs ft dst src len
  rw [if_neg hdata] at header
  have hbody := passes_body (s := dataStart (headerAccepted ft dst src len s)) hne rfl rfl hdue hfits lo hi
  rw [← hsplit, dataOutcome, if_neg (by exact hcrc)] at hbody
  rw [(header.append hbody).rxOctets_eq]
  exact rejected_discardFrame hv hn

section
variable {k : Nat} {b : Byte} (hf : NoFlag s) (hs : s.rx_state = .preamble1)
include hf hs

theorem rejected_of_header_damage (hk : k < (coveredOctets ft dst src len ++ [headerCrc ft dst src len]).length)
    (hb : (coveredOctets ft dst src len ++ [headerCrc ft dst src len])[k]? ≠ some b) (body : List Byte) :
    Rejected
      (rxOctets
        (preamble1 :: preamble2 :: ((coveredOctets ft dst src len ++ [headerCrc ft dst src len]).set k b ++ body))
        s) := by
  refine rejected_of_header hf hs (by simp [coveredOctets]) ?_ body
  rw [← headerCrc_residue ft dst src len]
  exact crc8Over_set_ne hk hb _

theorem rejected_of_body_damage (hc : s.cfg.Legal) (hfits : data.length ≤ s.cfg.maxPdu)
    (hlen : len = BitVec.ofNat 16 data.length) (hk : k < (bodyOctets data).length)
    (hb : (bodyOctets data)[k]? ≠ some b) :
    Rejected (rxOctets (headerOctets ft dst src len (headerCrc ft dst src len) ++ (bodyOctets data).set k b) s) := by
  have hdata : data ≠ [] := by
    rintro rfl
    exact Nat.not_lt_zero k hk
  have hnat : len.toNat = data.length := by rw [hlen, toNat_ofNat_length hc hfits]
  have hne : len ≠ 0 := by
    intro h
    rw [h] at hnat
    exact hdata (List.length_eq_zero_iff.mp hnat.symm)
  refine rejected_of_body hf hs hne (hnat.trans_le hfits) (by simp [bodyOctets_of_ne_nil hdata, hnat]) ?_
  rw [← crc16Over_bodyOctets hdata]
  exact crc16Over_set_ne hk hb _

/-- One changed octet after the preamble makes RX discard a constructed frame (R209 d). -/
theorem rejected_of_damage (hc : s.cfg.Legal) (hfits : data.length ≤ s.cfg.maxPdu) {f : List Byte}
    (hframe : f = constructFrame ft dst src data s.cfg.outCap) (h2 : 2 ≤ k) (hk : k < f.length) (hb : f[k]? ≠ some b) :
    Rejected (rxOctets (f.set k b) s) := by
  obtain ⟨j, rfl⟩ : ∃ j, k = j + 2 := ⟨k - 2, by omega⟩
  rw [constructFrame_outCap hfits] at hframe
  generalize hlen : BitVec.ofNat 16 data.length = len at hframe
  obtain rfl : f = preamble1 :: preamble2 ::
      ((coveredOctets ft dst src len ++ [headerCrc ft dst src len]) ++ bodyOctets data) := hframe
  rw [List.length_cons, List.length_cons, List.length_append] at hk
  rw [List.getElem?_cons_succ, List.getElem?_cons_succ] at hb
  rw [List.set_cons_succ, List.set_cons_succ]
  by_cases hj : j < (coveredOctets ft dst src len ++ [headerCrc ft dst src len]).length
  · rw [List.getElem?_append_left hj] at hb
    rw [List.set_append_left _ _ hj]
    exact rejected_of_header_damage hf hs hj hb _
  · have hle := Nat.le_of_not_lt hj
    rw [List.getElem?_append_right hle] at hb
    rw [List.set_append_right _ _ hle]
    exact rejected_of_body_damage hf hs hc hfits hlen.symm (by omega) hb

end

end Sys2Proof.Machine
end

section
/-!
RX and the clock: a step of RX after some ticks is an octet's effect or, when the silence was too long, the end of the frame;
so what a sequence of octets makes of RX holds however the ticks fall between them (42_receive_fsm.md R209 c, d).
-/

namespace Sys2Proof.Machine

variable {s u : State} {ms g : Nat} {left : Option Nat} {b : Byte} {bs rest : List Byte}

/-- `u` but for what the clock and the port write: the counter, the host's own wait and the octets that wait. -/
def clocked (ms : Nat) (left : Option Nat) (rest : List Byte) (u : State) : State :=
  { u with silence_ms := ms, receive_left := left, rx_stream := rest }

theorem clocked_self (s : State) : clocked s.silence_ms s.receive_left s.rx_stream s = s := rfl

theorem completeFrame_clocked : completeFrame (clocked ms left rest u) = clocked ms left rest (completeFrame u) := by
  simp only [completeFrame_eq]
  rfl

theorem rxHeaderCrcCheck_clocked :
    rxHeaderCrcCheck b (clocked ms left rest u) = clocked ms left rest (rxHeaderCrcCheck b u) := by
  rcases rxHeaderCrcCheck_cases b u with ⟨hc, h⟩ | ⟨hc, hlen, h⟩ | ⟨hc, hlen, h⟩ <;> rw [h]
  · rw [rxHeaderCrcCheck_of_bad (by exact hc)]
    rfl
  · rw [rxHeaderCrcCheck_of_empty (by exact hc) (by exact hlen), ← completeFrame_clocked]
    rfl
  · rw [rxHeaderCrcCheck_of_data (by exact hc) (by exact hlen)]
    rfl

theorem rxDataCrcCheck_clocked :
    rxDataCrcCheck b (clocked ms left rest u) = clocked ms left rest (rxDataCrcCheck b u) := by
  rcases rxDataCrcCheck_cases b u with ⟨hi, h⟩ | ⟨hi, ⟨hc, hlen⟩, h⟩ | ⟨hi, hbad, h⟩ <;> rw [h]
  · rw [rxDataCrcCheck_of_first (by exact hi)]
    rfl
  · rw [rxDataCrcCheck_of_good (by exact hi) (by exact hc) (by exact hlen), ← completeFrame_clocked]
    rfl
  · rw [rxDataCrcCheck_of_bad (by exact hi) (by exact hbad)]
    rfl

/-- An octet's effect neither reads nor writes what the clock and the port write. -/
theorem rxOctet_clocked : rxOctet b (clocked ms left rest u) = clocked ms left rest (rxOctet b u) := by
  cases hs : u.rx_state with
  | idle | done => rw [rxOctet_of_rest (by simp [rxReady, hs, clocked]), rxOctet_of_rest (by simp [rxReady, hs])]
  | preamble1 =>
    rw [rxOctet_of_preamble1 (by exact hs), rxOctet_of_preamble1 hs, rxPreamble1, rxPreamble1]
    split <;> rfl
  | preamble2 =>
    rw [rxOctet_of_preamble2 (by exact hs), rxOctet_of_preamble2 hs, rxPreamble2, rxPreamble2]
    split
    · rfl
    · split <;> rfl
  | header =>
    rw [rxOctet_of_header (by exact hs), rxOctet_of_header hs, rxHeader_eq, rxHeader_eq, storeHeaderOctet_eq,
      storeHeaderOctet_eq]
    rfl
  | headerCrcCheck =>
    rw [rxOctet_of_headerCrcCheck (by exact hs), rxOctet_of_headerCrcCheck hs, rxHeaderCrcCheck_clocked]
  | data =>
    rw [rxOctet_of_data (by exact hs), rxOctet_of_data hs, rxData_eq, rxData_eq]
    rfl
  | dataCrcCheck =>
    rw [rxOctet_of_dataCrcCheck (by exact hs), rxOctet_of_dataCrcCheck hs, rxDataCrcCheck_clocked]

theorem iterate_tick_clocked (g ms : Nat) (left : Option Nat) (rest : List Byte) (u : State) :
    ∃ ms' left', ms' ≤ ms + g ∧ tick^[g] (clocked ms left rest u) = clocked ms' left' rest u := by
  induction g generalizing ms left with
  | zero => exact ⟨ms, left, Nat.le_refl ms, rfl⟩
  | succ g ih =>
    obtain ⟨ms', left', hms, h⟩ := ih (min (ms + 1) u.cfg.silenceMax) (left.map (· - 1))
    exact ⟨ms', left', by omega, h⟩

/-- What a step of RX does, some ticks after the last octet, when it is ready and an octet waits. -/
theorem rxAfterTicks_clocked (hready : rxReady u = true) (g ms : Nat) (left : Option Nat) (b : Byte)
    (rest : List Byte) :
    ∃ left', rxAfterTicks (clocked ms left (b :: rest) u) g = clocked 0 left' rest (rxOctet b u) ∨
      (u.rx_state ≠ .preamble1 ∧ u.cfg.tFrameAbort ≤ ms + g) ∧
        rxAfterTicks (clocked ms left (b :: rest) u) g = clocked 0 left' (b :: rest) (discardFrame u) := by
  obtain ⟨ms', left', hms, hticks⟩ := iterate_tick_clocked g ms left (b :: rest) u
  refine ⟨left', ?_⟩
  rw [rxAfterTicks, hticks]
  cases habort : abortEnabled (clocked ms' left' (b :: rest) u) with
  | false =>
    left
    rw [rxStep_of_byte (by exact hready) habort rfl, ← rxOctet_clocked]
    rfl
  | true =>
    right
    obtain ⟨-, hp1, hlong⟩ := abortEnabled_eq_true.mp habort
    exact ⟨⟨hp1, Nat.le_trans hlong hms⟩, rxStep_of_abort habort⟩

/-! ## Without a long gap (R209 c) -/

/-- Octets that come without a long gap are all taken. -/
theorem foldl_rxAfterTicks_of_passes {t : State} (h : RxPasses bs u t) {gaps : List Nat}
    (hlen : gaps.length = bs.length) (hfirst : u.rx_state = .preamble1 ∨ ∀ g ∈ gaps.head?, ms + g < u.cfg.tFrameAbort)
    (hgaps : ∀ g ∈ gaps.tail, g < u.cfg.tFrameAbort) (left : Option Nat) (rest : List Byte) :
    ∃ ms' left', gaps.foldl rxAfterTicks (clocked ms left (bs ++ rest) u) = clocked ms' left' rest t := by
  induction h generalizing gaps ms left with
  | nil s =>
    rw [List.length_eq_zero_iff.mp hlen]
    exact ⟨ms, left, rfl⟩
  | @cons b bs s t ready _ ih =>
    match gaps, hlen with
    | g :: gaps, hlen =>
      have hcfg : (rxOctet b s).cfg = s.cfg := (congrArg State.cfg (rxOctet_writes b s).rest :)
      obtain ⟨left', hstep | ⟨⟨hp1, hlong⟩, -⟩⟩ := rxAfterTicks_clocked ready g ms left b (bs ++ rest)
      · rw [List.foldl_cons, List.cons_append, hstep]
        refine ih (Nat.succ.inj hlen) (.inr fun g' hg' => ?_) (fun g' hg' => ?_) left'
        · rw [hcfg, Nat.zero_add]
          exact hgaps g' (List.mem_of_mem_head? hg')
        · rw [hcfg]
          exact hgaps g' (List.mem_of_mem_tail hg')
      · exact absurd hlong (Nat.not_le.mpr (hfirst.resolve_left hp1 g rfl))

/-- Settles O25: the frame's octets are all taken, and the last completes it. -/
theorem rxAcceptsFrame : Obligations.RxAcceptsFrame := by
  intro s ft dst src data rest gaps hc hf hs hfits f hstream hlen hgaps t
  obtain ⟨hv, hn, hi⟩ := hf
  obtain ⟨u, hpass, hread⟩ := passes_constructFrame hc hs hfits ft dst src
  obtain ⟨ms, left, h⟩ :=
    foldl_rxAfterTicks_of_passes (ms := s.silence_ms) hpass hlen (.inl hs) hgaps s.receive_left rest
  rw [← hstream, clocked_self, completeFrame_eq, hread.destination, hread.station, hread.valid, hread.notForUs, hv, hn,
    Bool.false_or, Bool.false_or] at h
  rw [show t = _ from h]
  exact ⟨rfl, rfl, hread.frame_type, rfl, hread.source, hread.length, hread.input, rfl, rfl, hread.invalid.trans hi⟩

/-! ## A frame that ends in rejection (R209 d) -/

theorem Rejected.rxAfterTicks (h : Rejected s) (g : Nat) : Rejected (rxAfterTicks s g) := by
  obtain ⟨ms, left, -, hticks⟩ := iterate_tick_clocked g s.silence_ms s.receive_left s.rx_stream s
  rw [clocked_self] at hticks
  have hrej : Rejected (tick^[g] s) := by
    rw [hticks]
    exact ⟨h.rx_state, h.invalid, h.valid, h.notForUs⟩
  have hflag : anyFlag (tick^[g] s) = true := by simp [anyFlag, hrej.invalid]
  rwa [Machine.rxAfterTicks, rxStep_of_rest hrej.at_rest, if_pos hflag]

theorem Rejected.foldl_rxAfterTicks (h : Rejected s) (gaps : List Nat) :
    Rejected (gaps.foldl Machine.rxAfterTicks s) := by
  induction gaps generalizing s with
  | nil => exact h
  | cons g gaps ih => exact ih (h.rxAfterTicks g)

/-- No octet takes back a flag of a completed frame, so octets that end in rejection raised none on the way. -/
theorem flags_of_rejected (h : Rejected (rxOctets bs u)) :
    u.valid_frame = false ∧ u.valid_frame_not_for_us = false := by
  induction bs generalizing u with
  | nil => exact ⟨h.valid, h.notForUs⟩
  | cons b bs ih =>
    obtain ⟨hv, hn⟩ := ih h
    have hw := rxOctet_writes b u
    exact ⟨Bool.eq_false_iff.mpr fun htrue => Bool.eq_false_iff.mp hv (hw.valid_frame htrue),
      Bool.eq_false_iff.mpr fun htrue => Bool.eq_false_iff.mp hn (hw.valid_frame_not_for_us htrue)⟩

/-- Octets that end in rejection do so with any gaps, by the octet that is wrong or by a long gap before it. -/
theorem foldl_rxAfterTicks_of_rejected (hready : rxReady u = true) (h : Rejected (rxOctets bs u)) (gaps : List Nat)
    (ms : Nat) (left : Option Nat) :
    let t := gaps.foldl rxAfterTicks (clocked ms left bs u)
    t.valid_frame = false ∧ t.valid_frame_not_for_us = false ∧ (bs.length ≤ gaps.length → Rejected t) := by
  induction gaps generalizing bs u ms left with
  | nil =>
    obtain ⟨hv, hn⟩ := flags_of_rejected h
    refine ⟨hv, hn, fun hle => ?_⟩
    rw [List.length_eq_zero_iff.mp (Nat.le_zero.mp hle)] at h ⊢
    exact ⟨h.rx_state, h.invalid, hv, hn⟩
  | cons g gaps ih =>
    -- A state in which the frame has been given up stays one, whatever follows.
    have done {v : State} (hv : Rejected v) :
        let t := gaps.foldl rxAfterTicks v
        t.valid_frame = false ∧ t.valid_frame_not_for_us = false ∧ (bs.length ≤ gaps.length + 1 → Rejected t) :=
      have hall := hv.foldl_rxAfterTicks gaps
      ⟨hall.valid, hall.notForUs, fun _ => hall⟩
    cases bs with
    | nil => exact absurd hready (Bool.eq_false_iff.mp h.at_rest)
    | cons b bs =>
      obtain ⟨hv, hn⟩ := flags_of_rejected h
      rw [List.foldl_cons, List.length_cons]
      obtain ⟨left', hstep | ⟨-, hstep⟩⟩ := rxAfterTicks_clocked hready g ms left b bs
      · rw [hstep]
        cases hnext : rxReady (rxOctet b u) with
        | true =>
          obtain ⟨hv', hn', hend⟩ := ih hnext h 0 left'
          exact ⟨hv', hn', fun hle => hend (Nat.le_of_succ_le_succ hle)⟩
        | false =>
          have hrej : Rejected (rxOctet b u) := by
            rw [← rxOctets_of_rest hnext bs]
            exact h
          exact done ⟨hrej.rx_state, hrej.invalid, hrej.valid, hrej.notForUs⟩
      · rw [hstep]
        exact done ⟨rfl, rfl, hv, hn⟩

/-- Settles O26: a damaged frame ends in rejection when its octets come without gaps, so it does with any gaps. -/
theorem rxRejectsDamage : Obligations.RxRejectsDamage := by
  intro s ft dst src data k b gaps hc hf hs hfits f h2 hk hb hstream t
  have hrej := rejected_of_damage hf hs hc hfits rfl h2 hk hb
  have hready : rxReady s = true := by simp [rxReady, hs]
  obtain ⟨hv, hn, hend⟩ := foldl_rxAfterTicks_of_rejected hready hrej gaps s.silence_ms s.receive_left
  rw [← hstream, clocked_self] at hv hn hend
  refine ⟨hv, hn, fun hle => ?_⟩
  have hrejected : Rejected t := hend (by rwa [hstream, List.length_set])
  exact ⟨hrejected.invalid, hrejected.rx_state⟩

end Sys2Proof.Machine
end

section
/-!
SUPPORT. Which rule of NODE a frame row runs (43_master_fsm.md R232, 44_slave_fsm.md R290): without a valid frame, and in
the states that look at no flag, it is the same rule for every row; with a valid frame it is the row's reaction.
-/

namespace Sys2Proof.Machine

variable {i : Instr} {s : State}

/-! ## The rules every frame row shares -/

theorem exec_of_master (hi : isFrame i) (hm : isMaster s = true) : ∃ r, exec i s = masterStep r s := by
  obtain ⟨r, hr⟩ := exec_frame i hi
  exact ⟨r, (hr s).trans (nodeReact_of_master r hm)⟩

section
variable (hi : isFrame i) (hm : isMaster s = true)
include hi hm

theorem exec_of_useToken (hs : s.master_state = .useToken) : exec i s = useToken s := by
  obtain ⟨r, hr⟩ := exec_of_master hi hm
  exact hr.trans (masterStep_useToken r hs)

theorem exec_of_doneWithToken (hs : s.master_state = .doneWithToken) : exec i s = doneWithToken s := by
  obtain ⟨r, hr⟩ := exec_of_master hi hm
  exact hr.trans (masterStep_doneWithToken r hs)

theorem exec_of_passToken (hs : s.master_state = .passToken) : exec i s = passToken s := by
  obtain ⟨r, hr⟩ := exec_of_master hi hm
  exact hr.trans (masterStep_passToken r hs)

theorem exec_of_answerDataRequest (hs : s.master_state = .answerDataRequest) : exec i s = answerDataRequest s := by
  obtain ⟨r, hr⟩ := exec_of_master hi hm
  exact hr.trans (masterStep_answerDataRequest r hs)

theorem exec_of_idle_quiet (hs : s.master_state = .idle) (hf : NoFlag s) : exec i s = idleQuiet s := by
  obtain ⟨r, hr⟩ := exec_of_master hi hm
  rw [hr, masterStep_idle r hs, byFlag_quiet hf]

theorem exec_of_waitForReply_quiet (hs : s.master_state = .waitForReply) (hf : NoFlag s) : exec i s = waitQuiet s := by
  obtain ⟨r, hr⟩ := exec_of_master hi hm
  rw [hr, masterStep_waitForReply r hs, byFlag_quiet hf]

theorem exec_of_noToken_quiet (hs : s.master_state = .noToken) (hf : NoFlag s) : exec i s = noTokenQuiet s := by
  obtain ⟨r, hr⟩ := exec_of_master hi hm
  rw [hr, masterStep_noToken r hs, byFlag_quiet hf]

/-- The three flags have one rule in NO_TOKEN (43_master_fsm.md R266). -/
theorem exec_of_noToken_flag (hs : s.master_state = .noToken) (hf : anyFlag s = true) : exec i s = leaveToIdle s := by
  obtain ⟨r, hr⟩ := exec_of_master hi hm
  rw [hr, masterStep_noToken r hs]
  rcases byFlag_cases leaveToIdle leaveToIdle leaveToIdle noTokenQuiet s with
    ⟨-, h⟩ | ⟨-, -, h⟩ | ⟨-, -, -, h⟩ | ⟨⟨hv, hn, hinv⟩, -⟩
  · exact h
  · exact h
  · exact h
  · simp [anyFlag, hv, hn, hinv] at hf

theorem exec_of_pollForMaster_quiet (hs : s.master_state = .pollForMaster) (hf : NoFlag s) :
    exec i s = pollQuiet s := by
  obtain ⟨r, hr⟩ := exec_of_master hi hm
  rw [hr, masterStep_pollForMaster r hs, byFlag_quiet hf]

theorem exec_of_pollForMaster_invalid (hs : s.master_state = .pollForMaster) (hv : s.valid_frame = false)
    (hn : s.valid_frame_not_for_us = false) (hinv : s.invalid_frame = true) :
    exec i s = pollNext (clearInvalid s) := by
  obtain ⟨r, hr⟩ := exec_of_master hi hm
  rw [hr, masterStep_pollForMaster r hs, byFlag_invalid hv hn hinv]

theorem exec_of_pollForMaster_notForUs (hs : s.master_state = .pollForMaster) (hv : s.valid_frame = false)
    (hn : s.valid_frame_not_for_us = true) : exec i s = leaveToIdle s := by
  obtain ⟨r, hr⟩ := exec_of_master hi hm
  rw [hr, masterStep_pollForMaster r hs, byFlag_notForUs hv hn]

end

/-- A slave, and a master that waits in IDLE or WAIT_FOR_REPLY, drop what stands for no frame for this station. -/
theorem exec_of_waiting (hi : isFrame i)
    (hw : isMaster s = false ∨ s.master_state = .idle ∨ s.master_state = .waitForReply) :
    ∃ valid quiet, exec i s = byFlag valid dropNotForUs dropInvalid quiet s := by
  obtain ⟨r, hr⟩ := exec_frame i hi
  rw [hr]
  cases hm : isMaster s
  case false => exact ⟨_, _, nodeReact_of_slave r hm⟩
  case true =>
    rcases hw with hslave | hidle | hwait
    · exact absurd (hm.symm.trans hslave) (by decide)
    · exact ⟨_, _, (nodeReact_of_master r hm).trans (masterStep_idle r hidle)⟩
    · exact ⟨_, _, (nodeReact_of_master r hm).trans (masterStep_waitForReply r hwait)⟩

/-! ## The reaction to a valid frame -/

theorem forUs_eq_true_iff {dst : Byte} : forUs dst s = true ↔ dst = s.this_station := by simp [forUs]

theorem bcast_eq_true_iff {dst : Byte} : bcast dst = true ↔ dst = 255 := by
  simp [bcast, Config.broadcastMac]

section
variable (r : FrameReaction)

theorem nodeReact_idle_valid (hm : isMaster s = true) (hs : s.master_state = .idle) (hv : s.valid_frame = true) :
    nodeReact r s = r.idle s := by
  rw [nodeReact_of_master r hm, masterStep_idle r hs, byFlag_valid hv]

theorem nodeReact_waitForReply_valid (hm : isMaster s = true) (hs : s.master_state = .waitForReply)
    (hv : s.valid_frame = true) : nodeReact r s = r.waitForReply s := by
  rw [nodeReact_of_master r hm, masterStep_waitForReply r hs, byFlag_valid hv]

theorem nodeReact_pollForMaster_valid (hm : isMaster s = true) (hs : s.master_state = .pollForMaster)
    (hv : s.valid_frame = true) : nodeReact r s = r.pollForMaster s := by
  rw [nodeReact_of_master r hm, masterStep_pollForMaster r hs, byFlag_valid hv]

end

/-- A slave and a master in IDLE answer a valid frame alike when their two reactions do. -/
theorem nodeReact_listening_valid {r : FrameReaction} {out : Result}
    (hl : isMaster s = false ∨ s.master_state = .idle) (hv : s.valid_frame = true)
    (slave : isMaster s = false → r.slave s = out) (idle : isMaster s = true → r.idle s = out) :
    nodeReact r s = out := by
  cases hm : isMaster s
  case false => rw [nodeReact_of_slave r hm, slaveStep, byFlag_valid hv, slave hm]
  case true =>
    have hs : s.master_state = .idle := hl.resolve_left (by simp [hm])
    rw [nodeReact_idle_valid r hm hs hv, idle hm]

/-- Only an RPFM for this station matters to a polling master (43_master_fsm.md R273, R274), and only a DNER for this
station to one that awaits a reply (R257, R258). -/
theorem exec_frame_reaction (hi : isFrame i) : ∃ r : FrameReaction, (∀ s, exec i s = nodeReact r s) ∧
    (∀ s, (∀ src len h, i ≠ .rpfm s.this_station src len h) → r.pollForMaster s = leaveToIdle s) ∧
    (∀ s, (∀ src len h, i ≠ .dner s.this_station src len h) → r.waitForReply s = dropFrame s) := by
  by_cases hig : isIgnoredType i
  · exact ⟨_, exec_of_isIgnoredType hig, fun _ _ => rfl, fun _ _ => rfl⟩
  cases i
  case rpfm dst src len h =>
    refine ⟨_, fun _ => rfl, fun s hne => if_neg fun hus => hne src len h ?_, fun _ _ => rfl⟩
    rw [forUs_eq_true_iff.mp hus]
  case dner dst src len h =>
    refine ⟨_, fun _ => rfl, fun _ _ => rfl, fun s hne => if_neg fun hus => hne src len h ?_⟩
    rw [forUs_eq_true_iff.mp hus]
  case token | pfm | der => exact ⟨_, fun _ => rfl, fun _ _ => rfl, fun _ _ => rfl⟩
  -- What is left is an ignored type, or no frame row.
  all_goals first | exact absurd trivial hig | cases hi

theorem exec_of_pollForMaster_valid (hi : isFrame i) (hm : isMaster s = true) (hs : s.master_state = .pollForMaster)
    (hv : s.valid_frame = true) (hne : ∀ src len h, i ≠ .rpfm s.this_station src len h) :
    exec i s = leaveToIdle s := by
  obtain ⟨r, hexec, hpoll, -⟩ := exec_frame_reaction hi
  rw [hexec, nodeReact_pollForMaster_valid r hm hs hv, hpoll s hne]

theorem exec_of_waitForReply_valid (hi : isFrame i) (hm : isMaster s = true) (hs : s.master_state = .waitForReply)
    (hv : s.valid_frame = true) (hne : ∀ src len h, i ≠ .dner s.this_station src len h) :
    exec i s = dropFrame s := by
  obtain ⟨r, hexec, -, hwait⟩ := exec_frame_reaction hi
  rw [hexec, nodeReact_waitForReply_valid r hm hs hv, hwait s hne]

end Sys2Proof.Machine
end

section
/-!
SUPPORT. The rules of NODE as next-state equations (43_master_fsm.md), one per branch.
-/

namespace Sys2Proof.Machine

variable {s : State}

/-! ## `next_addr` (R231) -/

theorem toNat_nextAddr (s : State) (a : Byte) :
    (nextAddr s a).toNat = (a.toNat + 1) % (s.max_master.toNat + 1) := by
  have hlt : (a.toNat + 1) % (s.max_master.toNat + 1) < s.max_master.toNat + 1 := Nat.mod_lt _ (Nat.succ_pos _)
  rw [nextAddr, BitVec.toNat_ofNat, Nat.mod_eq_of_lt]
  omega

theorem toNat_nextAddr_le (s : State) (a : Byte) : (nextAddr s a).toNat ≤ s.max_master.toNat := by
  rw [toNat_nextAddr]
  exact Nat.le_of_lt_succ (Nat.mod_lt _ (Nat.succ_pos _))

theorem this_station_le_max_master (hm : isMaster s = true) : s.this_station.toNat ≤ s.max_master.toNat :=
  of_decide_eq_true hm

/-- `k` moves of `next_addr` from an address of the cycle add `k` modulo its length. -/
theorem toNat_iterate_nextAddr {a : Byte} (ha : a.toNat ≤ s.max_master.toNat) (k : Nat) :
    ((nextAddr s)^[k] a).toNat = (a.toNat + k) % (s.max_master.toNat + 1) := by
  induction k with
  | zero => exact (Nat.mod_eq_of_lt (Nat.lt_succ_of_le ha)).symm
  | succ k ih => rw [Function.iterate_succ_apply', toNat_nextAddr, ih, Nat.mod_add_mod, Nat.add_assoc]

/-- The cycle reaches each of its addresses in at most `max_master` moves. -/
theorem exists_iterate_nextAddr_eq {a b : Byte} (ha : a.toNat ≤ s.max_master.toNat)
    (hb : b.toNat ≤ s.max_master.toNat) :
    ∃ k, k ≤ s.max_master.toNat ∧ (nextAddr s)^[k] a = b := by
  by_cases hab : a.toNat ≤ b.toNat
  · refine ⟨b.toNat - a.toNat, by omega, BitVec.eq_of_toNat_eq ?_⟩
    rw [toNat_iterate_nextAddr ha, Nat.add_sub_cancel' hab, Nat.mod_eq_of_lt (by omega)]
  · refine ⟨b.toNat + (s.max_master.toNat + 1) - a.toNat, by omega, BitVec.eq_of_toNat_eq ?_⟩
    rw [toNat_iterate_nextAddr ha, Nat.add_sub_cancel' (by omega), Nat.add_mod_right, Nat.mod_eq_of_lt (by omega)]

/-! ## Polling (R246, R267, R276) -/

/-- A poll of the station just noted, over the state before the note. -/
theorem pollStation_noted (p : Byte) (s : State) :
    pollStation p { s with poll_station := p } =
      .next { transmit 0x01 p s.this_station [] s with
        poll_station := p, master_state := .pollForMaster, more_work := false } := by
  rw [pollStation, transmit_eq, transmit_eq]
  rfl

theorem idleQuiet_of_silence (h : claimThreshold s ≤ s.silence_ms) :
    idleQuiet s =
      if nextAddr s s.this_station = s.this_station then
        takeToken { s with poll_station := nextAddr s s.this_station }
      else pollStation (nextAddr s s.this_station) { s with poll_station := nextAddr s s.this_station } :=
  if_neg (Nat.not_lt.mpr h)

theorem noTokenQuiet_of_expand (h : s.cfg.ringExpand = true ∧ s.cfg.tUsageTimeout ≤ s.silence_ms) :
    noTokenQuiet s =
      if nextAddr s s.next_station = s.this_station then
        takeToken { s with poll_station := nextAddr s s.next_station }
      else pollStation (nextAddr s s.next_station) { s with poll_station := nextAddr s s.next_station } :=
  if_pos (Bool.and_eq_true_iff.mpr ⟨h.1, decide_eq_true h.2⟩)

theorem noTokenQuiet_of_not_expand (h : ¬ (s.cfg.ringExpand = true ∧ s.cfg.tUsageTimeout ≤ s.silence_ms)) :
    noTokenQuiet s =
      if s.cfg.tNoToken ≤ s.silence_ms then nodeDone true { s with master_state := .idle } else nodeDone false s :=
  if_neg fun hb => h ⟨(Bool.and_eq_true_iff.mp hb).1, of_decide_eq_true (Bool.and_eq_true_iff.mp hb).2⟩

/-- Silence closes the poll window as a damaged frame does: where the flag is 0, clearing it changes nothing. -/
theorem exec_of_pollForMaster_closed {i : Instr} (hi : isFrame i) (hm : isMaster s = true)
    (hs : s.master_state = .pollForMaster) (hv : s.valid_frame = false) (hn : s.valid_frame_not_for_us = false)
    (hclosed : s.invalid_frame = true ∨ s.cfg.tUsageTimeout ≤ s.silence_ms) :
    exec i s = pollNext (clearInvalid s) := by
  cases hinv : s.invalid_frame
  case true => exact exec_of_pollForMaster_invalid hi hm hs hv hn hinv
  case false =>
    have hms : s.cfg.tUsageTimeout ≤ s.silence_ms := hclosed.resolve_left (by simp [hinv])
    have hself : clearInvalid s = s := by rw [clearInvalid, ← hinv]
    rw [exec_of_pollForMaster_quiet hi hm hs ⟨hv, hn, hinv⟩, hself]
    exact if_neg (Nat.not_lt.mpr hms)

/-! ## The queue's head (R250, R251, R260) -/

/-- Removing the head of a queue that has one. -/
theorem qPop_of_cons {e : Entry} {rest : List Entry} (hq : s.q = e :: rest) :
    qPop s = { s with q := rest, q_head := (s.q_head + 1) % s.cfg.queueCap } := by
  simp [qPop, qPopElement, nextHead, hq]

theorem qPop_of_nil (hq : s.q = []) : qPop s = s := by
  rw [qPop, qPopElement, nextHead, if_neg (by simp [hq]), hq, List.eraseIdx_nil, ← hq]

theorem useToken_of_end (h : s.q = [] ∨ s.max_info_frames.toNat ≤ s.frame_count.toNat) :
    useToken s = .next { s with master_state := .doneWithToken, more_work := true } := by
  unfold useToken qPeek
  cases hq : s.q with
  | nil => rfl
  | cons e rest => exact if_pos (h.resolve_left (by simp [hq]))

/-- With budget left the head's PDU is sent; a request stays queued (R251). -/
theorem useToken_of_cons {e : Entry} {rest : List Entry} {d : List Byte} (hq : s.q = e :: rest)
    (hcount : s.frame_count.toNat < s.max_info_frames.toNat)
    (hd : PayloadIs s.cfg e d) :
    useToken s =
      if e.expects_reply then
        nodeDone false { transmit ftDer e.destination_mac s.this_station d s with
          frame_count := s.frame_count + 1, master_state := .waitForReply }
      else
        nodeDone true (qPop { transmit ftDner e.destination_mac s.this_station d s with
          frame_count := s.frame_count + 1 }) := by
  simp only [useToken, qPeek, hq, List.head?_cons, if_neg (Nat.not_le.mpr hcount), withPayload_of_payloadIs hd,
    transmit_frame_count]

/-- The end of the wait; the head of the queue goes unless it is retained (R260). -/
theorem waitQuiet_of_timeout (h : s.cfg.tReplyTimeout ≤ s.silence_ms) :
    waitQuiet s = .next { (if s.cfg.derTimeoutRetain then s else qPop s) with
      master_state := .doneWithToken, more_work := true } :=
  if_neg (Nat.not_lt.mpr h)

/-! ## Answers (47_external_interfaces.md R362, R363) -/

theorem replyInContract_eq_true_iff {c : Config} {d : List Byte} :
    replyInContract c d = true ↔ 1 ≤ d.length ∧ d.length ≤ c.maxPdu := by
  simp [replyInContract, Nat.one_le_iff_ne_zero]

section
variable {src : Byte} {len : Half} {data : List Byte} {r : Option (List Byte)}

/-- `ANSWER` once the upper layer has answered `r` within its contract: `u` is the state after the question. -/
theorem answer_of_buildReply {u : State} (hin : InputIs s len data) (hb : buildReply src data s = (r, u))
    (hr : ∀ d, r = some d → replyInContract u.cfg d = true) :
    answer src len s = .next (r.elim u fun d => transmit ftDner src u.this_station d u) := by
  rw [answer, withInput_of_inputIs hin, hb]
  cases r with
  | none => rfl
  | some d => exact if_pos (hr d rfl)

/-- `ANSWER` with an answer of `reply_port`. -/
theorem answer_of_reply_port {rest : List (Option (List Byte))} (hin : InputIs s len data)
    (hport : s.reply_port = r :: rest) (hr : ∀ d, r = some d → 1 ≤ d.length ∧ d.length ≤ s.cfg.maxPdu) :
    answer src len s = .next { answered src data r s with reply_port := rest } := by
  have hb : buildReply src data s = (r, { s with reply_port := rest, reply_request := some (src, data) }) := by
    rw [buildReply, hport]
  rw [answer_of_buildReply hin hb fun d hd => replyInContract_eq_true_iff.mpr (hr d hd)]
  cases r with
  | none => rfl
  | some d =>
    rw [Option.elim_some, answered, transmit_eq, transmit_eq]
    rfl

/-- `ANSWER` with the free answer (entry 7), which keeps the contract whatever it is. -/
theorem answer_of_no_reply_port (hin : InputIs s len data) (hport : s.reply_port = []) :
    ∃ r, (∀ d, r = some d → 1 ≤ d.length ∧ d.length ≤ s.cfg.maxPdu) ∧
      answer src len s = .next { answered src data r s with asked := s.asked + 1 } := by
  have hr : ∀ d, freeReply s.cfg s.asked src data = some d → replyInContract s.cfg d = true := fun d hd =>
    (Option.filter_eq_some_iff.mp hd).2
  have hb : buildReply src data s =
      (freeReply s.cfg s.asked src data, { s with asked := s.asked + 1, reply_request := some (src, data) }) := by
    rw [buildReply, hport]
  refine ⟨_, fun d hd => replyInContract_eq_true_iff.mp (hr d hd), ?_⟩
  rw [answer_of_buildReply hin hb hr]
  cases freeReply s.cfg s.asked src data with
  | none => rfl
  | some d =>
    rw [Option.elim_some, answered, transmit_eq, transmit_eq]
    rfl

/-- `ANSWER` with an answer of `reply_port` outside the contract (entry 8). -/
theorem answer_of_bad_reply {d : List Byte} {rest : List (Option (List Byte))} (hin : InputIs s len data)
    (hport : s.reply_port = some d :: rest) (hbad : d.length = 0 ∨ s.cfg.maxPdu < d.length) :
    answer src len s = .refused .replyOutsideContract := by
  rw [answer, withInput_of_inputIs hin, buildReply, hport]
  exact if_neg fun h => by
    obtain ⟨hpos, hle⟩ := replyInContract_eq_true_iff.mp h
    dsimp only at hle
    omega

end

theorem answerDataRequest_of_valid (hv : s.valid_frame = true) :
    answerDataRequest s = andThen (answer s.rx_source s.rx_data_length s) fun t =>
      nodeDone false { clearValid t with master_state := .idle } := by
  rw [answerDataRequest, if_pos hv]

theorem answerDataRequest_of_no_frame (hv : s.valid_frame = false) :
    answerDataRequest s = .next { s with master_state := .idle, more_work := false } := by
  rw [answerDataRequest, if_neg (by simp [hv]), andThen_next, clearValid, ← hv]
  rfl

/-! ## Delivery and correlation (R239, R257, R258) -/

section
variable {len : Half} {data : List Byte}

theorem deliverFrame_of_inputIs (hin : InputIs s len data) (src : Byte) :
    deliverFrame src len s = .next { delivered src data s with valid_frame := false, more_work := false } := by
  rw [deliverFrame, deliver_of_inputIs hin]
  rfl

theorem finishCorrelation_found (hin : InputIs s len data) (src : Byte) (k : Nat) :
    finishCorrelation src len (.ok (some k)) s =
      .next { delivered src data (qPopElement k s) with
        valid_frame := false, master_state := .useToken, more_work := true } := by
  have hpopped : InputIs (qPopElement k s) len data := hin
  rw [finishCorrelation, deliver_of_inputIs hpopped]
  rfl

theorem correlateFrame_of_inputIs (hin : InputIs s len data) (dst src : Byte) :
    correlateFrame dst src len s = finishCorrelation src len (correlate data src dst s) s :=
  withInput_of_inputIs hin _

end

/-! ## A run of the token's release (R282) -/

/-- A run whose next event is NODE goes on from the state after that step. -/
theorem run_of_nodeStep {after : List Event} {t : State} (ha : s.agenda = .node :: after)
    (h : nodeStep { s with agenda := after } = .next t) (n : Nat) :
    Sys2Proof.core.run (n + 1) s = Sys2Proof.core.run n t := by
  have hstep : Sys2Proof.core.step s = .next t := (step_of_agenda_cons ha).trans h
  simp only [Host.Core.run, hstep]

section
variable {after : List Event} (ha : s.agenda = .node :: after) (hm : isMaster s = true)
include ha hm

theorem run_useToken_of_nil (hs : s.master_state = .useToken) (hq : s.q = []) (n : Nat) :
    Sys2Proof.core.run (n + 1) s =
      Sys2Proof.core.run n { s with agenda := after, master_state := .doneWithToken, more_work := true } := by
  refine run_of_nodeStep ha ?_ n
  rw [nodeStep, exec_of_useToken (isFrame_fetch _) (by exact hm) (by exact hs), useToken_of_end (.inl (by exact hq))]

theorem run_doneWithToken (hs : s.master_state = .doneWithToken) (n : Nat) :
    Sys2Proof.core.run (n + 1) s =
      Sys2Proof.core.run n { s with
        agenda := after, next_station := nextAddr s s.this_station, master_state := .passToken, more_work := true } := by
  refine run_of_nodeStep ha ?_ n
  rw [nodeStep, exec_of_doneWithToken (isFrame_fetch _) (by exact hm) (by exact hs)]
  rfl

theorem run_passToken_of_ne (hs : s.master_state = .passToken) (hne : s.next_station ≠ s.this_station) (n : Nat) :
    Sys2Proof.core.run (n + 1) s =
      Sys2Proof.core.run n { transmit 0x00 s.next_station s.this_station [] s with
        agenda := after, master_state := .noToken, more_work := false } := by
  refine run_of_nodeStep ha ?_ n
  rw [nodeStep, exec_of_passToken (isFrame_fetch _) (by exact hm) (by exact hs), passToken, if_neg (by exact hne),
    transmit_eq, transmit_eq]
  rfl

end

end Sys2Proof.Machine
end

section
/-!
The obligations about NODE in role MASTER, and about the frames a slave and a master in IDLE treat alike. The theorems'
own namespace keeps their names apart from the rules'.
-/

namespace Sys2Proof.Machine.MasterSteps

/-- Settles O31: the two ends of the budget, and the head's PDU sent as DER or DNER. -/
theorem useToken : Obligations.UseToken := by
  intro i s hi hm hs
  rw [exec_of_useToken hi hm hs]
  refine ⟨useToken_of_end, fun e rest d hq hcount hd => ⟨fun her => ?_, fun her => ?_⟩⟩
  · rw [useToken_of_cons hq hcount hd, if_pos her]
    rfl
  · rw [useToken_of_cons hq hcount hd, if_neg (by simp [her]), transmit_eq, transmit_eq,
      qPop_of_cons (e := e) (rest := rest) (by exact hq)]
    rfl

/-- Settles O35: the window closes for silence as for a damaged frame, and the sweep walks the cycle of `next_addr`. -/
theorem pollWindow : Obligations.PollWindow := by
  refine ⟨?_, fun s a hm ha => exists_iterate_nextAddr_eq ha (this_station_le_max_master hm)⟩
  intro i s hi hm hs p closed
  refine ⟨fun hf hlt => ?_, fun ⟨hv, hn, hc⟩ hp => ?_, fun ⟨hv, hn, hc⟩ hp => ?_⟩
  · exact (exec_of_pollForMaster_quiet hi hm hs hf).trans (if_pos hlt)
  · exact (exec_of_pollForMaster_closed hi hm hs hv hn hc).trans (if_pos hp)
  · refine (exec_of_pollForMaster_closed hi hm hs hv hn hc).trans ((if_neg hp).trans ?_)
    rw [pollStation_noted, transmit_eq, transmit_eq, ← hs]
    rfl

/-- Settles O36: `ANSWER` by what the upper layer answers, and the flag cleared after it. -/
theorem answerDataRequest : Obligations.AnswerDataRequest := by
  intro i s hi hm hs
  rw [exec_of_answerDataRequest hi hm hs]
  refine ⟨answerDataRequest_of_no_frame, fun data hv hin => ⟨fun r rest hport hr => ?_, fun hport => ?_,
    fun d rest hport hbad => ?_⟩⟩
  · rw [answerDataRequest_of_valid hv, answer_of_reply_port hin hport hr]
    rfl
  · obtain ⟨r, hr, hanswer⟩ := answer_of_no_reply_port (src := s.rx_source) hin hport
    refine ⟨r, hr, ?_⟩
    rw [answerDataRequest_of_valid hv, hanswer]
    rfl
  · rw [answerDataRequest_of_valid hv, answer_of_bad_reply hin hport hbad]
    rfl

/-- Settles O44, type by type: the reactions of a slave and of a master in IDLE are the same drop. -/
theorem otherFramesDropped : Obligations.OtherFramesDropped := by
  rintro i s hl hv (hig | ⟨dst, src, len, h, rfl⟩ | ⟨dst, src, len, h, hrow, hdst⟩ |
    ⟨dst, src, len, h, hrow, hdst, hunicast⟩)
  · rw [exec_of_isIgnoredType hig]
    exact nodeReact_listening_valid hl hv (fun _ => rfl) (fun _ => rfl)
  · exact nodeReact_listening_valid hl hv (fun _ => rfl) (fun _ => rfl)
  · have hother (hm : isMaster s = true) : ¬ forUs dst s = true :=
      mt forUs_eq_true_iff.mp (hdst.resolve_left (by simp [hm]))
    rcases hrow with rfl | rfl
    · exact nodeReact_listening_valid hl hv (fun _ => rfl) fun hm => if_neg (hother hm)
    · exact nodeReact_listening_valid hl hv (fun _ => rfl) fun hm => if_neg (hother hm)
  · have hother : ¬ forUs dst s = true := mt forUs_eq_true_iff.mp hdst
    have hbcast : ¬ bcast dst = true := mt bcast_eq_true_iff.mp hunicast
    rcases hrow with rfl | rfl
    · exact nodeReact_listening_valid hl hv (fun _ => (if_neg (by simp [hother])).trans (if_neg hbcast))
        fun _ => (if_neg hother).trans (if_neg hbcast)
    · have hneither : ¬ (forUs dst s || bcast dst) = true := by simp [hother, hbcast]
      exact nodeReact_listening_valid hl hv (fun _ => if_neg hneither) fun _ => if_neg hneither

/-- Settles O45: a DNER for this station ends in the Reply Correlator's verdict, any other valid frame is dropped. -/
theorem waitForReplyFrame : Obligations.WaitForReplyFrame := by
  refine ⟨fun s src len h p hm hs hv hin => ?_, fun i s => exec_of_waitForReply_valid⟩
  have hexec : exec (.dner s.this_station src len h) s =
      finishCorrelation src len (correlate p src s.this_station s) s :=
    (nodeReact_waitForReply_valid _ hm hs hv).trans
      ((if_pos (forUs_eq_true_iff.mpr rfl)).trans (correlateFrame_of_inputIs hin s.this_station src))
  rw [hexec]
  refine ⟨fun k hk => ?_, fun hnone => ?_⟩
  · rw [hk, finishCorrelation_found hin]
  · rw [hnone]
    rfl

/-- Settles O48: the three steps, each from the state the one before it ends in. -/
theorem tokenReleasedInOneCycle : Obligations.TokenReleasedInOneCycle := by
  intro s after hm hs hq ha next
  have first := run_useToken_of_nil ha hm hs hq
  have second (n : Nat) := (first (n + 1)).trans (run_doneWithToken (s := { s with
    agenda := .node :: .node :: after, master_state := .doneWithToken, more_work := true }) rfl hm rfl n)
  have third (hne : next ≠ s.this_station) := (second 1).trans (run_passToken_of_ne (s := { s with
    agenda := .node :: after, next_station := next, master_state := .passToken, more_work := true }) rfl hm rfl hne 0)
  refine ⟨⟨_, first 0, rfl, rfl⟩, ⟨_, second 0, rfl, rfl⟩, fun hne => (third hne).trans ?_⟩
  rw [transmit_eq, transmit_eq]
  rfl

/-- Settles O4: the octets in the registers decode to the row NODE fetches, whatever stands on the agenda. -/
theorem stepRunsDecoded : Obligations.StepRunsDecoded := by
  intro s i after rest ha hdec
  have hfetch : decode .wire (fetchOctets s) = .ok (fetch s, []) := by
    rw [← List.append_nil (fetchOctets s)]
    exact decodeFrame_headerOctets ..
  obtain rfl : fetch s = i := congrArg Prod.fst (Except.ok.inj (hfetch.symm.trans hdec))
  exact step_of_agenda_cons ha

/-- Settles O29: for a master `this_station + 1` leaves the cycle only from its top, whose successor is 0. -/
theorem nextAddrCycle : Obligations.NextAddrCycle := by
  refine ⟨toNat_nextAddr, toNat_nextAddr_le, fun s hm => ?_⟩
  have hle := this_station_le_max_master hm
  rw [← BitVec.toNat_inj, ← BitVec.toNat_inj, toNat_nextAddr]
  change _ ↔ s.max_master.toNat = 0
  rcases Nat.lt_or_eq_of_le hle with hlt | htop
  · rw [Nat.mod_eq_of_lt (by omega)]
    omega
  · rw [htop, Nat.mod_self]
    omega

/-- Settles O30: below the claim threshold nothing, from it on a poll of the successor or the token taken. -/
theorem idleQuiet : Obligations.IdleQuiet := by
  intro i s hi hm hs hf p
  rw [exec_of_idle_quiet hi hm hs hf]
  refine ⟨fun hlt => if_pos hlt, fun hle hp => ?_, fun hle hp => ?_⟩
  · exact (idleQuiet_of_silence hle).trans (if_pos hp)
  · exact (idleQuiet_of_silence hle).trans ((if_neg hp).trans (pollStation_noted p s))

/-- Settles O32: the timeout removes the head, where there is one and it is not retained. -/
theorem waitQuiet : Obligations.WaitQuiet := by
  intro i s hi hm hs hf
  rw [exec_of_waitForReply_quiet hi hm hs hf]
  refine ⟨fun hlt => if_pos hlt, fun hle hkeep => ?_, fun e rest hle hretain hq => ?_⟩
  · rw [waitQuiet_of_timeout hle]
    rcases hkeep with hretain | hq
    · rw [if_pos hretain]
    · rw [qPop_of_nil hq, ite_self]
  · rw [waitQuiet_of_timeout hle, if_neg (by simp [hretain]), qPop_of_cons hq]

/-- Settles O33: R262 is one equation, and PASS_TOKEN asks only whether the successor is another station. -/
theorem tokenRelease : Obligations.TokenRelease := by
  intro i s hi hm
  refine ⟨exec_of_doneWithToken hi hm, fun hs hne => ?_, fun hs hself => ?_⟩
  · exact (exec_of_passToken hi hm hs).trans (if_neg hne)
  · exact (exec_of_passToken hi hm hs).trans (if_pos hself)

/-- Settles O34: the ring's expansion goes before the loss of the token. -/
theorem noTokenQuiet : Obligations.NoTokenQuiet := by
  intro i s hi hm hs hf p expand
  rw [exec_of_noToken_quiet hi hm hs hf]
  refine ⟨fun he hp => ?_, fun he hp => ?_, fun hne hle => ?_, fun hne hlt => ?_⟩
  · exact (noTokenQuiet_of_expand he).trans (if_pos hp)
  · exact (noTokenQuiet_of_expand he).trans ((if_neg hp).trans (pollStation_noted p s))
  · exact (noTokenQuiet_of_not_expand hne).trans (if_pos hle)
  · exact (noTokenQuiet_of_not_expand hne).trans (if_neg (Nat.not_le.mpr hlt))

/-- Settles O37: the two flags have one rule each in the three places where NODE waits. -/
theorem flagCleared : Obligations.FlagCleared := by
  intro i s hi hw hv
  obtain ⟨valid, quiet, hexec⟩ := exec_of_waiting hi hw
  rw [hexec]
  exact ⟨fun hn => byFlag_notForUs hv hn .., fun hn hinv => byFlag_invalid hv hn hinv ..⟩

/-- Settles O38: NO_TOKEN leaves any flag, POLL_FOR_MASTER all that is neither its reply nor damaged. -/
theorem frameLeftForIdle : Obligations.FrameLeftForIdle := fun _ _ hi hm =>
  ⟨exec_of_noToken_flag hi hm, exec_of_pollForMaster_notForUs hi hm, exec_of_pollForMaster_valid hi hm⟩

/-- Settles O39: the reactions of IDLE to a TOKEN and a DER for this station. -/
theorem tokenTakenRequestKept : Obligations.TokenTakenRequestKept := by
  intro s dst src len h hm hs hv hdst
  have hus : forUs dst s = true := forUs_eq_true_iff.mpr hdst
  exact ⟨(nodeReact_idle_valid _ hm hs hv).trans (if_pos hus), (nodeReact_idle_valid _ hm hs hv).trans (if_pos hus)⟩

/-- Settles O40: the reaction of IDLE to a PFM, and of POLL_FOR_MASTER to an RPFM, for this station. -/
theorem pollAnsweredReplyAccepted : Obligations.PollAnsweredReplyAccepted := by
  intro s dst src len h hm hv hdst
  have hus : forUs dst s = true := forUs_eq_true_iff.mpr hdst
  exact ⟨fun hs => (nodeReact_idle_valid _ hm hs hv).trans (if_pos hus),
    fun hs => (nodeReact_pollForMaster_valid _ hm hs hv).trans (if_pos hus)⟩

/-- Settles O42: a broadcast DER is delivered and not answered, even by a slave whose own address is 255
(44_slave_fsm.md R295). -/
theorem dataDelivered : Obligations.DataDelivered := by
  intro s dst src len h data hl hv hin
  have hdeliver := deliverFrame_of_inputIs hin src
  refine ⟨fun hdst => ?_, ?_⟩
  · have htaken : (forUs dst s || bcast dst) = true := by
      rwa [Bool.or_eq_true, forUs_eq_true_iff, bcast_eq_true_iff]
    exact nodeReact_listening_valid hl hv (fun _ => (if_pos htaken).trans hdeliver)
      fun _ => (if_pos htaken).trans hdeliver
  · intro hdst hnot
    have hbcast : bcast dst = true := bcast_eq_true_iff.mpr hdst
    refine nodeReact_listening_valid hl hv (fun _ => ?_) fun hm => ?_
    · exact (if_neg (by simp [hbcast])).trans ((if_pos hbcast).trans hdeliver)
    · have hother : ¬ forUs dst s = true := fun hus => hnot ⟨hm, (forUs_eq_true_iff.mp hus).symm.trans hdst⟩
      exact (if_neg hother).trans ((if_pos hbcast).trans hdeliver)

end Sys2Proof.Machine.MasterSteps
end

section
/-!
SUPPORT. What no rule of NODE in role SLAVE touches, and the only frame one of them sends (44_slave_fsm.md R290, R293,
R298).
-/

namespace Sys2Proof.Machine

variable {i : Instr} {s u : State} {sent : List Byte → Prop}

/-- From `s` to `t` a slave's rule leaves what only a master uses as it is, and hands at most one frame to the port, which
`sent` allows. -/
structure SlaveKeeps (sent : List Byte → Prop) (s t : State) : Prop where
  master_state : t.master_state = s.master_state
  next_station : t.next_station = s.next_station
  poll_station : t.poll_station = s.poll_station
  frame_count : t.frame_count = s.frame_count
  q : t.q = s.q
  tx_stream : t.tx_stream = s.tx_stream ∨ ∃ f, sent f ∧ t.tx_stream = s.tx_stream ++ f

/-- A step of a slave is over: it has no more work (44_slave_fsm.md R290). -/
structure SlaveEnds (sent : List Byte → Prop) (s t : State) : Prop extends SlaveKeeps sent s t where
  more_work : t.more_work = false

theorem SlaveKeeps.refl (s : State) : SlaveKeeps sent s s := ⟨rfl, rfl, rfl, rfl, rfl, .inl rfl⟩

theorem SlaveKeeps.nodeDone (h : SlaveKeeps sent s u) : Ensures (nodeDone false u) (SlaveEnds sent s) :=
  ensures_nodeDone { h with more_work := rfl }

theorem SlaveKeeps.dropFrame (h : SlaveKeeps sent s u) : Ensures (dropFrame u) (SlaveEnds sent s) :=
  SlaveKeeps.nodeDone (u := clearValid u) { h with }

theorem dropNotForUs_slaveEnds (s : State) : Ensures (dropNotForUs s) (SlaveEnds sent s) :=
  SlaveKeeps.nodeDone (u := clearNotForUs s) { SlaveKeeps.refl s with }

theorem dropInvalid_slaveEnds (s : State) : Ensures (dropInvalid s) (SlaveEnds sent s) :=
  SlaveKeeps.nodeDone (u := clearInvalid s) { SlaveKeeps.refl s with }

/-- 44_slave_fsm.md R294, R295: a delivery writes the Received Packet Slot only. -/
theorem deliverFrame_slaveEnds (src : Byte) (len : Half) (s : State) :
    Ensures (deliverFrame src len s) (SlaveEnds sent s) := by
  have hdeliver : Ensures (deliver src len s) (SlaveKeeps sent s) := by
    intro t ht
    rcases deliver_eq_next ht with ⟨data, -, -, -, rfl⟩ | rfl
    · exact { SlaveKeeps.refl s with }
    · exact .refl t
  exact ensures_andThen hdeliver fun _ => SlaveKeeps.dropFrame

/-- The upper layer's question, whichever way it is answered, touches the reply ports only. -/
theorem buildReply_snd (src : Byte) (data : List Byte) (s : State) : ∃ port n, (buildReply src data s).2 =
    { s with reply_port := port, asked := n, reply_request := some (src, data) } := by
  rcases buildReply_cases src data s with ⟨r, rest, -, he⟩ | ⟨-, he⟩ <;> rw [he]
  · exact ⟨rest, s.asked, rfl⟩
  · exact ⟨s.reply_port, s.asked + 1, rfl⟩

/-- 47_external_interfaces.md R363: an answer is one DNER to the asking station, or nothing. -/
theorem answer_slaveKeeps {src : Byte} (hsent : ∀ d, sent (constructFrame ftDner src s.this_station d s.cfg.outCap))
    (len : Half) : Ensures (answer src len s) (SlaveKeeps sent s) := by
  intro t ht
  obtain ⟨data, -, h⟩ := answer_eq_next ht
  obtain ⟨port, n, hasked⟩ := buildReply_snd src data s
  rw [hasked] at h
  rcases h with ⟨-, rfl⟩ | ⟨d, -, -, rfl⟩
  · exact { SlaveKeeps.refl s with }
  · rw [transmit_eq]
    exact { SlaveKeeps.refl (sent := sent) s with tx_stream := .inr ⟨_, hsent d, rfl⟩ }

/-! ## The rows -/

/-- `f` answers the row: a valid DER for the station's own address, which is not the broadcast address, is answered by a
DNER to its source (44_slave_fsm.md R293). -/
def AnswerFrame (i : Instr) (s : State) (f : List Byte) : Prop :=
  ∃ src len h d, i = .der s.this_station src len h ∧ s.valid_frame = true ∧ s.this_station ≠ 255 ∧
    f = constructFrame ftDner src s.this_station d s.cfg.outCap

theorem forUs_and_not_bcast_eq_true_iff {dst : Byte} :
    (forUs dst s && !bcast dst) = true ↔ dst = s.this_station ∧ dst ≠ 255 := by
  rw [Bool.and_eq_true, Bool.not_eq_true', forUs_eq_true_iff, ← Bool.not_eq_true, bcast_eq_true_iff]

/-- Of all the rows only DER has a slave's reaction that sends. -/
theorem exec_frame_slave (hi : isFrame i) : ∃ r : FrameReaction, (∀ s, exec i s = nodeReact r s) ∧
    ∀ s, s.valid_frame = true → Ensures (r.slave s) (SlaveEnds (AnswerFrame i s) s) := by
  by_cases hig : isIgnoredType i
  · exact ⟨_, exec_of_isIgnoredType hig, fun s _ => (SlaveKeeps.refl s).dropFrame⟩
  cases i
  case token | pfm | rpfm => exact ⟨_, fun _ => rfl, fun s _ => (SlaveKeeps.refl s).dropFrame⟩
  case der dst src len h =>
    refine ⟨_, fun _ => rfl, fun s hv => ?_⟩
    dsimp only
    split
    · next hown =>
      obtain ⟨rfl, hunicast⟩ := forUs_and_not_bcast_eq_true_iff.mp hown
      exact ensures_andThen (answer_slaveKeeps (fun d => ⟨src, len, h, d, rfl, hv, hunicast, rfl⟩) len)
        fun _ => SlaveKeeps.dropFrame
    · exact ensures_ite (deliverFrame_slaveEnds src len s) (SlaveKeeps.refl s).dropFrame
  case dner dst src len h =>
    exact ⟨_, fun _ => rfl, fun s _ => ensures_ite (deliverFrame_slaveEnds src len s) (SlaveKeeps.refl s).dropFrame⟩
  -- What is left is an ignored type, or no frame row.
  all_goals first | exact absurd trivial hig | cases hi

section
variable (hi : isFrame i) (hm : isMaster s = false)
include hi hm

theorem exec_of_slave_quiet (hf : NoFlag s) : exec i s = .next { s with more_work := false } := by
  obtain ⟨r, hexec⟩ := exec_frame i hi
  rw [hexec, nodeReact_of_slave r hm, slaveStep, byFlag_quiet hf, nodeDone]

theorem exec_slaveEnds : Ensures (exec i s) (SlaveEnds (AnswerFrame i s) s) := by
  obtain ⟨r, hexec, hslave⟩ := exec_frame_slave hi
  rw [hexec, nodeReact_of_slave r hm]
  exact ensures_byFlag (hslave s) (dropNotForUs_slaveEnds s) (dropInvalid_slaveEnds s) (SlaveKeeps.refl s).nodeDone

end

/-- A slave answers a request in the step that finds it, and drops it (44_slave_fsm.md R293). -/
theorem exec_der_of_slave {dst : Byte} (hm : isMaster s = false) (hv : s.valid_frame = true)
    (hdst : dst = s.this_station) (hunicast : dst ≠ 255) (src : Byte) (len : Half) (h : Byte) :
    exec (.der dst src len h) s = andThen (answer src len s) dropFrame := by
  refine (nodeReact_of_slave _ hm).trans ((byFlag_valid hv ..).trans ?_)
  exact if_pos (forUs_and_not_bcast_eq_true_iff.mpr ⟨hdst, hunicast⟩)

end Sys2Proof.Machine
end

section
/-!
The obligations about NODE in role SLAVE (44_slave_fsm.md).
-/

namespace Sys2Proof.Machine.SlaveSteps

/-- Settles O41: `ANSWER` by what the upper layer answers, and the request dropped after it. -/
theorem slaveAnswers : Obligations.SlaveAnswers := by
  intro s dst src len h data hm hv hdst hunicast hin
  rw [exec_der_of_slave hm hv hdst hunicast]
  refine ⟨fun r rest hport hr => ?_, fun hport => ?_, fun d rest hport hbad => ?_⟩
  · rw [answer_of_reply_port hin hport hr]
    rfl
  · obtain ⟨r, hr, hanswer⟩ := answer_of_no_reply_port (src := src) hin hport
    refine ⟨r, hr, ?_⟩
    rw [hanswer]
    rfl
  · rw [answer_of_bad_reply hin hport hbad]
    rfl

/-- Settles O46: every row ends as `SlaveEnds` says, and a frame it sent is the answer to that row. -/
theorem slaveNeverOriginates : Obligations.SlaveNeverOriginates := by
  intro i s hi hm
  refine ⟨exec_of_slave_quiet hi hm, fun t ht => ?_⟩
  have h := exec_slaveEnds hi hm t ht
  refine ⟨h.master_state, h.next_station, h.poll_station, h.frame_count, h.q, h.more_work, ?_⟩
  rcases h.tx_stream with hsilent | ⟨f, ⟨src, len, hcrc, d, hrow, hv, hunicast, rfl⟩, htx⟩
  · exact .inl hsilent
  · exact .inr ⟨src, len, hcrc, d, hrow, hv, hunicast, htx⟩

end Sys2Proof.Machine.SlaveSteps
end

section
/-!
SUPPORT. What the operations of the Outgoing PDU Queue do (45_pdu_queue.md R301 to R306): one lemma per branch.
-/

namespace Sys2Proof.Machine

variable {s : State}

/-! ## `Q_ENQUEUE` (R301) -/

theorem enqueueAccepts_eq_true_iff {data : List Byte} :
    enqueueAccepts data s = true ↔
      s.q.length ≠ s.cfg.queueCap ∧ 1 ≤ data.length ∧ data.length ≤ s.cfg.maxPdu := by
  simp only [enqueueAccepts, qCount_eq, Bool.and_eq_true, bne_iff_ne, ne_eq, decide_eq_true_eq, Nat.one_le_iff_ne_zero]

theorem qEnqueue_of_accepts {data : List Byte} (h : enqueueAccepts data s = true) (dest : Byte) (er : Bool) :
    qEnqueue dest data er s = (true, { s with q := s.q ++ [newEntry dest data er] }) :=
  if_pos h

theorem qEnqueue_of_not_accepts {data : List Byte} (h : ¬ enqueueAccepts data s = true) (dest : Byte) (er : Bool) :
    qEnqueue dest data er s = (false, s) :=
  if_neg h

/-- The 16-bit length register holds the length of data that fits an entry. -/
theorem toNat_newEntry_length {c : Config} (hc : c.Legal) (dest : Byte) {data : List Byte} (er : Bool)
    (hfits : data.length ≤ c.maxPdu) : (newEntry dest data er).length.toNat = data.length := by
  have := hc.maxPdu_le
  simp only [newEntry, BitVec.toNat_ofNat]
  omega

theorem payloadIs_newEntry {c : Config} (hc : c.Legal) (dest : Byte) {data : List Byte} (er : Bool)
    (hfits : data.length ≤ c.maxPdu) : PayloadIs c (newEntry dest data er) data := by
  rw [PayloadIs, toNat_newEntry_length hc dest er hfits]
  exact octetsOf_eq_ok.mpr ⟨hfits, Memory.readSeq_writeSeq [] data⟩

/-! ## `Q_POP_ELEMENT` (R305) -/

theorem nextHead_of_length_le {k : Nat} (h : s.q.length ≤ k) : nextHead k s = s.q_head :=
  if_neg fun ⟨hk, hpos⟩ => by rw [qCount_eq] at hpos; omega

/-- Beyond the queue nothing leaves. -/
theorem qPopElement_of_length_le {k : Nat} (h : s.q.length ≤ k) : qPopElement k s = s := by
  rw [qPopElement, List.eraseIdx_of_length_le h, nextHead_of_length_le h]

/-- Only the sequence and the head index change. -/
theorem qPopElement_frame (k : Nat) (s : State) : { qPopElement k s with q := s.q, q_head := s.q_head } = s := rfl

/-- What `Q_POP` returns and what it leaves make up the queue. -/
theorem qPopped_append_qPop (s : State) : (qPopped 0 s).toList ++ (qPop s).q = s.q := by
  rw [qPopped, qPop, qPopElement_q]
  cases s.q <;> rfl

/-! ## Sequences of operations (R306) -/

theorem runQueue_pop (ops : List QueueOp) (s : State) :
    runQueue (.pop :: ops) s =
      ((qPopped 0 s).toList ++ (runQueue ops (qPop s)).1, (runQueue ops (qPop s)).2) := rfl

theorem runQueue_enqueue_of_accepts {data : List Byte} (h : enqueueAccepts data s = true) (dest : Byte) (er : Bool)
    (ops : List QueueOp) :
    runQueue (.enqueue dest data er :: ops) s =
      let out := runQueue ops { s with q := s.q ++ [newEntry dest data er] }
      (out.1, newEntry dest data er :: out.2.1, out.2.2) := by
  rw [runQueue, qEnqueue_of_accepts h]
  rfl

theorem runQueue_enqueue_of_not_accepts {data : List Byte} (h : ¬ enqueueAccepts data s = true) (dest : Byte)
    (er : Bool) (ops : List QueueOp) : runQueue (.enqueue dest data er :: ops) s = runQueue ops s := by
  rw [runQueue, qEnqueue_of_not_accepts h]
  rfl

theorem runQueue_fifo (ops : List QueueOp) (s : State) :
    (runQueue ops s).1 ++ (runQueue ops s).2.2.q = s.q ++ (runQueue ops s).2.1 := by
  induction ops generalizing s with
  | nil => exact (List.append_nil s.q).symm
  | cons op ops ih =>
    cases op with
    | enqueue dest data er =>
      by_cases h : enqueueAccepts data s = true
      · rw [runQueue_enqueue_of_accepts h]
        exact (ih _).trans (List.append_assoc ..)
      · rw [runQueue_enqueue_of_not_accepts h]
        exact ih s
    | pop =>
      rw [runQueue_pop, List.append_assoc, ih (qPop s), ← List.append_assoc, qPopped_append_qPop]

end Sys2Proof.Machine
end

section
/-!
SUPPORT. The ring behind the queue (45_pdu_queue.md R308): how each operation on the storage moves the entries the ring
stands for.
-/

namespace Sys2Proof.Machine

variable {r t : Ring} {i j k : Nat} {e : Entry}

theorem Ring.getElem?_view (r : Ring) (j : Nat) : r.view[j]? = if j < r.count then some (r.get j) else none := by
  by_cases hj : j < r.count <;> simp [Ring.view, hj]

theorem Ring.length_view (r : Ring) : r.view.length = r.count := by simp [Ring.view]

/-! ## One write to the storage -/

@[simp] theorem Ring.cap_set (r : Ring) (k : Nat) (e : Entry) : (r.set k e).cap = r.cap := List.length_set

/-- Different positions of the ring lie in different slots. -/
theorem Ring.slot_inj (hj : j < r.cap) (hk : k < r.cap) (h : (r.head + j) % r.cap = (r.head + k) % r.cap) : j = k :=
  Nat.ModEq.eq_of_lt_of_lt (Nat.ModEq.add_left_cancel' r.head h) hj hk

theorem Ring.get_set_same (hk : k < r.cap) : (r.set k e).get k = e := by
  have hslot : (r.head + k) % r.cap < r.store.length := Nat.mod_lt _ (Nat.zero_lt_of_lt hk)
  rw [Ring.get, Ring.cap_set]
  simp [Ring.set, hslot]

theorem Ring.get_set_other (hj : j < r.cap) (hk : k < r.cap) (hne : j ≠ k) : (r.set k e).get j = r.get j := by
  have hslot : (r.head + k) % r.cap ≠ (r.head + j) % r.cap := fun h => hne (Ring.slot_inj hk hj h).symm
  rw [Ring.get, Ring.cap_set]
  simp [Ring.set, Ring.get, List.getElem?_set_ne hslot]

/-! ## `Q_ENQUEUE` -/

theorem Ring.wf_enqueue (h : r.wf) (hroom : r.count < r.cap) : (r.enqueue e).wf := by
  have hcap : (r.enqueue e).cap = r.cap := r.cap_set r.count e
  exact ⟨hcap ▸ h.1, hcap ▸ hroom⟩

/-- The new entry goes to the first free slot, so no entry of the queue is overwritten. -/
theorem Ring.view_enqueue (hroom : r.count < r.cap) : (r.enqueue e).view = r.view ++ [e] := by
  have hget : ∀ j, (r.enqueue e).get j = (r.set r.count e).get j := fun _ => rfl
  have hold : (List.range r.count).map (r.enqueue e).get = r.view :=
    List.map_congr_left fun j hj => by
      have hj := List.mem_range.mp hj
      rw [hget, Ring.get_set_other (by omega) hroom (by omega)]
  calc (r.enqueue e).view
      = (List.range r.count).map (r.enqueue e).get ++ [(r.enqueue e).get r.count] := by
        simp [Ring.view, Ring.enqueue, List.range_succ]
    _ = r.view ++ [e] := by rw [hold, hget, Ring.get_set_same hroom]

/-! ## Removing an entry -/

/-- A ring with one entry less, whose entries from `k` on are those one position later, stands for the sequence without
its entry `k`. -/
theorem Ring.view_eq_eraseIdx (hk : k < r.count) (hcount : t.count = r.count - 1)
    (hbefore : ∀ j, j < k → t.get j = r.get j)
    (hafter : ∀ j, k ≤ j → j + 1 < r.count → t.get j = r.get (j + 1)) : t.view = r.view.eraseIdx k := by
  ext1 j
  rw [List.getElem?_eraseIdx, Ring.getElem?_view, hcount]
  split
  · next hlt =>
    split
    · next hj => rw [Ring.getElem?_view, if_pos (by omega), hbefore j hj]
    · next hj => rw [Ring.getElem?_view, if_pos (by omega), hafter j (by omega) (by omega)]
  · next hge =>
    rw [if_neg (by omega), Ring.getElem?_view, if_neg (by omega)]

theorem Ring.pop_of_count_zero (h : r.count = 0) : r.pop = r := if_pos h

theorem Ring.pop_of_count_pos (h : 0 < r.count) :
    r.pop = { r with head := (r.head + 1) % r.cap, count := r.count - 1 } :=
  if_neg (Nat.ne_of_gt h)

theorem Ring.wf_pop (h : r.wf) : r.pop.wf := by
  rcases Nat.eq_zero_or_pos r.count with hzero | hpos
  · rwa [Ring.pop_of_count_zero hzero]
  · rw [Ring.pop_of_count_pos hpos]
    exact ⟨Nat.mod_lt _ (Nat.zero_lt_of_lt h.1), (Nat.sub_le _ _).trans h.2⟩

/-- Advancing the head by one slot moves every entry up by one. -/
theorem Ring.get_pop (hpos : 0 < r.count) (j : Nat) : r.pop.get j = r.get (j + 1) := by
  rw [Ring.pop_of_count_pos hpos]
  simp only [Ring.get, Ring.cap, Nat.mod_add_mod, Nat.add_assoc, Nat.add_comm 1 j]

theorem Ring.view_pop (r : Ring) : r.pop.view = r.view.eraseIdx 0 := by
  rcases Nat.eq_zero_or_pos r.count with hzero | hpos
  · rw [Ring.pop_of_count_zero hzero, List.eraseIdx_of_length_le (by rw [Ring.length_view]; omega)]
  · exact Ring.view_eq_eraseIdx hpos (by rw [Ring.pop_of_count_pos hpos]) nofun fun j _ _ => Ring.get_pop hpos j

/-! ## Closing the gap -/

@[simp] theorem Ring.head_closeGap (r : Ring) (i n : Nat) : (r.closeGap i n).head = r.head := by
  induction n generalizing r i with
  | zero => rfl
  | succ n ih => exact ih _ _

@[simp] theorem Ring.cap_closeGap (r : Ring) (i n : Nat) : (r.closeGap i n).cap = r.cap := by
  induction n generalizing r i with
  | zero => rfl
  | succ n ih => exact (ih _ _).trans (Ring.cap_set ..)

/-- The positions before `i` are not written. -/
theorem Ring.get_closeGap_before {n : Nat} (hn : i + n < r.cap) (hj : j < i) : (r.closeGap i n).get j = r.get j := by
  induction n generalizing r i with
  | zero => rfl
  | succ n ih =>
    rw [Ring.closeGap, ih (by rw [Ring.cap_set]; omega) (by omega),
      Ring.get_set_other (by omega) (by omega) (by omega)]

/-- Each of the `n` positions from `i` on takes the entry after it as it was before the loop. -/
theorem Ring.get_closeGap_moved {n : Nat} (hn : i + n < r.cap) (hij : i ≤ j) (hj : j < i + n) :
    (r.closeGap i n).get j = r.get (j + 1) := by
  induction n generalizing r i with
  | zero => omega
  | succ n ih =>
    have hn' : i + 1 + n < (r.set i (r.get (i + 1))).cap := by rw [Ring.cap_set]; omega
    rw [Ring.closeGap]
    rcases Nat.eq_or_lt_of_le hij with rfl | hlt
    · rw [Ring.get_closeGap_before hn' (Nat.lt_succ_self i), Ring.get_set_same (by omega)]
    · rw [ih hn' hlt (by omega), Ring.get_set_other (by omega) (by omega) (by omega)]

/-! ## `Q_POP_ELEMENT` -/

theorem Ring.popElement_of_count_le (h : r.count ≤ k) : r.popElement k = r := if_pos h

theorem Ring.popElement_zero (r : Ring) : r.popElement 0 = r.pop := by
  rcases Nat.eq_zero_or_pos r.count with hzero | hpos
  · rw [Ring.popElement_of_count_le hzero.le, Ring.pop_of_count_zero hzero]
  · exact if_neg (Nat.not_le.mpr hpos)

theorem Ring.popElement_of_pos (hk : 0 < k) (h : k < r.count) :
    r.popElement k = { r.closeGap k (r.count - 1 - k) with count := r.count - 1 } :=
  (if_neg (Nat.not_le.mpr h)).trans (if_neg (Nat.ne_of_gt hk))

theorem Ring.wf_popElement (h : r.wf) (k : Nat) : (r.popElement k).wf := by
  rcases Nat.lt_or_ge k r.count with hlt | hge
  · rcases Nat.eq_zero_or_pos k with rfl | hpos
    · exact r.popElement_zero ▸ Ring.wf_pop h
    · rw [Ring.popElement_of_pos hpos hlt]
      have hcap := r.cap_closeGap k (r.count - 1 - k)
      exact ⟨(r.head_closeGap k _).trans_lt (h.1.trans_eq hcap.symm),
        (Nat.sub_le _ _).trans (h.2.trans_eq hcap.symm)⟩
  · rwa [Ring.popElement_of_count_le hge]

theorem Ring.view_popElement (h : r.wf) (k : Nat) : (r.popElement k).view = r.view.eraseIdx k := by
  rcases Nat.lt_or_ge k r.count with hlt | hge
  · rcases Nat.eq_zero_or_pos k with rfl | hpos
    · rw [Ring.popElement_zero, Ring.view_pop]
    · have hgap : k + (r.count - 1 - k) < r.cap := by have := h.2; omega
      rw [Ring.popElement_of_pos hpos hlt]
      exact Ring.view_eq_eraseIdx hlt rfl (fun _ hj => Ring.get_closeGap_before hgap hj)
        fun _ hkj hj => Ring.get_closeGap_moved hgap hkj (by omega)
  · rw [Ring.popElement_of_count_le hge, List.eraseIdx_of_length_le (r.length_view.trans_le hge)]

end Sys2Proof.Machine
end

section
/-!
The obligations about the Outgoing PDU Queue (45_pdu_queue.md).
-/

namespace Sys2Proof.Machine.QueueOps

/-- Settles O55: by the position of the removed entry, and by induction over the moves that close its gap. -/
theorem ringRealisesQueue : Obligations.RingRealisesQueue := by
  intro r h
  refine ⟨fun e hroom => ⟨Ring.wf_enqueue h hroom, Ring.view_enqueue hroom⟩, ⟨Ring.wf_pop h, ?_⟩,
    fun k => ⟨Ring.wf_popElement h k, Ring.view_popElement h k⟩⟩
  rw [Ring.view_pop, List.eraseIdx_zero]

/-- Settles O52: the three tests of `Q_ENQUEUE`, and what the entry it forms holds. -/
theorem queueEnqueue : Obligations.QueueEnqueue := by
  intro s dest data er hc
  refine ⟨fun hfull => ?_, fun hbad => ?_, fun hroom hpos hfits => ?_⟩
  · exact qEnqueue_of_not_accepts (fun h => (enqueueAccepts_eq_true_iff.mp h).1 hfull) dest er
  · refine qEnqueue_of_not_accepts (fun h => ?_) dest er
    obtain ⟨-, hpos, hfits⟩ := enqueueAccepts_eq_true_iff.mp h
    omega
  · have hacc : enqueueAccepts data s = true := enqueueAccepts_eq_true_iff.mpr ⟨hroom, hpos, hfits⟩
    exact ⟨newEntry dest data er, qEnqueue_of_accepts hacc dest er, payloadIs_newEntry hc dest er hfits,
      toNat_newEntry_length hc dest er hfits, rfl, rfl⟩

/-- Settles O54: by induction over the operations. -/
theorem queueFifo : Obligations.QueueFifo := runQueue_fifo

/-- Settles O53: each clause from the list operation behind it. -/
theorem queueReadAndPop : Obligations.QueueReadAndPop := by
  intro s k
  refine ⟨?peek, ?peekNext, ?popped, qPopElement_of_length_le,
    fun hk => ⟨?length, ?before, ?after, qPopElement_frame k s⟩, rfl, fun hpos => if_pos ⟨rfl, hpos⟩⟩
  case peek =>
    rw [qPeek, List.head?_eq_getElem?]
    split
    · rfl
    · next h => exact List.getElem?_eq_none (Nat.not_lt.mp h)
  case peekNext =>
    rw [qPeekNext, getElem?_def]
    split <;> rfl
  case popped => exact getElem?_def ..
  case length =>
    rw [qPopElement_q, List.length_eraseIdx_of_lt hk]
    omega
  case before => exact fun j hj => List.getElem?_eraseIdx_of_lt hj
  case after => exact fun j hj => List.getElem?_eraseIdx_of_ge hj

end Sys2Proof.Machine.QueueOps
end

section
/-!
SUPPORT. The Reply Correlator (46_reply_correlator.md): its parsers by positions (R321 to R323), `MATCH` and `CORRELATE`
(R324 to R327), and the rows that run it on a candidate reply (R320).
-/

namespace Sys2Proof.Machine

/-! ## `NPDU_PARSE` by positions (R321) -/

theorem joinOctets_eq_ofNat (hi lo : Byte) : joinOctets hi lo = BitVec.ofNat 16 (hi.toNat * 256 + lo.toNat) := by
  rw [← toNat_joinOctets, BitVec.ofNat_toNat, BitVec.setWidth_eq]

/-- The octet `k` places on is octet `k` of what stands from here on. -/
theorem getD_add (p : List Byte) (i k : Nat) : p.getD (i + k) 0 = (p.drop i).getD k 0 := by
  rw [List.getD_eq_getElem?_getD, List.getD_eq_getElem?_getD, List.getElem?_drop]

/-- An optional specifier that starts at position `i`, and the position after it (R130). -/
def specifierByIndex (p : List Byte) (present : Bool) (i : Nat) : Option (Option NetAddress × Nat) :=
  if present then
    if i + 3 > p.length then none
    else
      let n := (p.getD (i + 2) 0).toNat
      if i + 3 + n > p.length then none
      else
        some (some (BitVec.ofNat 16 ((p.getD i 0).toNat * 256 + (p.getD (i + 1) 0).toNat), (p.drop (i + 3)).take n),
          i + 3 + n)
  else some (none, i)

/-- Taking a specifier off the octets from `i` on advances the position as `specifierByIndex` says. -/
theorem takeSpecifier_drop (p : List Byte) (present : Bool) (i : Nat) :
    takeSpecifier present (p.drop i) = (specifierByIndex p present i).map fun r => (r.1, p.drop r.2) := by
  cases present with
  | false => rfl
  | true =>
    have hlen : (p.drop i).length = p.length - i := List.length_drop
    rw [specifierByIndex, if_pos rfl, ← List.drop_drop, getD_add p i 2, getD_add p i 1,
      show p.getD i 0 = (p.drop i).getD 0 0 from getD_add p i 0]
    match hq : p.drop i with
    | [] | [_] | [_, _] =>
      rw [hq] at hlen
      simp only [List.length_cons, List.length_nil] at hlen
      rw [if_pos (by omega)]
      rfl
    | hi :: lo :: n :: rest =>
      rw [hq] at hlen
      simp only [List.length_cons] at hlen
      have hafter : p.drop (i + 3 + n.toNat) = rest.drop n.toNat := by
        rw [← List.drop_drop, ← List.drop_drop, hq]
        rfl
      have hfits : i + 3 + n.toNat > p.length ↔ ¬ n.toNat ≤ rest.length := by omega
      rw [if_neg (by omega)]
      by_cases hn : n.toNat ≤ rest.length <;> simp [takeSpecifier, hfits, hn, joinOctets_eq_ofNat, hafter]

theorem takeHopCount_drop (p : List Byte) (present : Bool) (i : Nat) :
    takeHopCount present (p.drop i) =
      if present = true ∧ i + 1 > p.length then none else some (p.drop (if present then i + 1 else i)) := by
  cases present with
  | false => rfl
  | true =>
    by_cases hi : i < p.length
    · rw [if_neg (by omega), List.drop_eq_getElem_cons hi]
      rfl
    · rw [if_pos ⟨rfl, by omega⟩, List.drop_eq_nil_of_le (by omega)]
      rfl

/-- The header by positions: where each part is whole, the next one starts where it ends. -/
theorem npduParseByIndex_eq_bind {p : List Byte} (h : 2 ≤ p.length) :
    npduParseByIndex p =
      (specifierByIndex p ((p.getD 1 0).getLsbD 5) 2).bind fun dst =>
      (specifierByIndex p ((p.getD 1 0).getLsbD 3) dst.2).bind fun src =>
      (takeHopCount ((p.getD 1 0).getLsbD 5) (p.drop src.2)).map fun apdu =>
        { version := p.getD 0 0, nlm := (p.getD 1 0).getLsbD 7, dst := dst.1, src := src.1, apdu := apdu } := by
  unfold npduParseByIndex
  dsimp only
  rw [if_neg (Nat.not_lt.mpr h)]
  split
  · next hd => rw [show specifierByIndex p _ 2 = none from hd]; rfl
  · next dst i hd =>
    rw [show specifierByIndex p _ 2 = some (dst, i) from hd, Option.bind_some]
    split
    · next hs => rw [show specifierByIndex p _ i = none from hs]; rfl
    · next src j hs =>
      rw [show specifierByIndex p _ i = some (src, j) from hs, Option.bind_some, takeHopCount_drop]
      split <;> rfl

/-- Part by part: what is left after a part is what the positions say is left. -/
theorem npduParse_eq_npduParseByIndex (p : List Byte) : npduParse p = npduParseByIndex p := by
  match p with
  | [] | [_] => rfl
  | v :: c :: rest =>
    rw [npduParseByIndex_eq_bind (p := v :: c :: rest) (Nat.le_add_left 2 rest.length)]
    change npduBody v (c.getLsbD 7) (c.getLsbD 5) (c.getLsbD 3) ((v :: c :: rest).drop 2) =
      (specifierByIndex (v :: c :: rest) (c.getLsbD 5) 2).bind _
    rw [npduBody, takeSpecifier_drop]
    cases specifierByIndex (v :: c :: rest) (c.getLsbD 5) 2 with
    | none => rfl
    | some dst =>
      change (takeSpecifier (c.getLsbD 3) ((v :: c :: rest).drop dst.2)).bind _ =
        (specifierByIndex (v :: c :: rest) (c.getLsbD 3) dst.2).bind _
      rw [takeSpecifier_drop]
      cases specifierByIndex (v :: c :: rest) (c.getLsbD 3) dst.2 with
      | none => rfl
      | some src => exact Option.map_eq_bind.symm

/-! ## The keys by positions (R322, R323) -/

/-- A property of the decoded row follows from the property of each of the nine rows at the PDU type that selects it
(R132). -/
theorem decodeApdu_cases {motive : Nat → Instr → Prop} (a : Byte)
    (confirmedRequest : ∀ m sa x, motive 0 (.apduConfirmedRequest (a.getLsbD 3) m sa x))
    (unconfirmedRequest : ∀ x, motive 1 (.apduUnconfirmedRequest x)) (simpleAck : ∀ x, motive 2 (.apduSimpleAck x))
    (complexAck : ∀ m x, motive 3 (.apduComplexAck (a.getLsbD 3) m x))
    (segmentAck : ∀ x n v, motive 4 (.apduSegmentAck x n v)) (error : ∀ x, motive 5 (.apduError x))
    (reject : ∀ x, motive 6 (.apduReject x)) (abort : ∀ x v, motive 7 (.apduAbort x v))
    (reserved : ∀ t x, 7 < t → motive t (.apduReserved x)) : motive (a.toNat / 16) (decodeApdu a) := by
  have type : ∀ a : Byte, a.toNat / 16 = (a.extractLsb' 4 4).toNat := by decide
  rw [type a, decodeApdu]
  split
  case h_1 h => rw [h]; exact confirmedRequest ..
  case h_2 h => rw [h]; exact unconfirmedRequest _
  case h_3 h => rw [h]; exact simpleAck _
  case h_4 h => rw [h]; exact complexAck ..
  case h_5 h => rw [h]; exact segmentAck ..
  case h_6 h => rw [h]; exact error _
  case h_7 h => rw [h]; exact reject _
  case h_8 h => rw [h]; exact abort ..
  case h_9 n0 n1 n2 n3 n4 n5 n6 n7 =>
    simp only [imp_false] at n0 n1 n2 n3 n4 n5 n6 n7
    exact reserved _ _ (by bv_omega)

/-- The key of a request by its APDU row, from the octets after `a[0]` (R322); the model names only the reply's. -/
def requestKeyOf (i : Instr) (a : List Byte) : Option (Byte × Byte) :=
  match i with
  | .apduConfirmedRequest seg _ _ _ => confirmedRequestKey seg a
  | _ => none

theorem apduKeyRequest_cons (a0 : Byte) (a : List Byte) :
    apduKeyRequest (a0 :: a) = if a0.toNat / 16 = 0 then confirmedRequestKey (a0.getLsbD 3) a else none := by
  change requestKeyOf (decodeApdu a0) a = _
  exact decodeApdu_cases (motive := fun t i => requestKeyOf i a =
      if t = 0 then confirmedRequestKey (a0.getLsbD 3) a else none) a0
    (fun _ _ _ => rfl) (fun _ => rfl) (fun _ => rfl) (fun _ _ => rfl) (fun _ _ _ => rfl) (fun _ => rfl) (fun _ => rfl)
    (fun _ _ => rfl) fun t _ ht => (if_neg (show ¬ t = 0 by omega)).symm

theorem apduKeyReply_cons (a0 : Byte) (a : List Byte) :
    apduKeyReply (a0 :: a) =
      if a0.toNat / 16 = 2 ∨ a0.toNat / 16 = 5 then simpleAckKey a
      else if a0.toNat / 16 = 3 then complexAckKey (a0.getLsbD 3) a
      else if a0.toNat / 16 = 4 ∨ a0.toNat / 16 = 6 ∨ a0.toNat / 16 = 7 then invokeOnlyKey a
      else none :=
  decodeApdu_cases (motive := fun t i => replyKeyOf i a =
      if t = 2 ∨ t = 5 then simpleAckKey a
      else if t = 3 then complexAckKey (a0.getLsbD 3) a
      else if t = 4 ∨ t = 6 ∨ t = 7 then invokeOnlyKey a
      else none) a0
    (fun _ _ _ => rfl) (fun _ => rfl) (fun _ => rfl) (fun _ _ => rfl) (fun _ _ _ => rfl) (fun _ => rfl) (fun _ => rfl)
    (fun _ _ => rfl) fun t x ht => by
      rw [if_neg (by omega), if_neg (by omega), if_neg (by omega)]
      rfl

/-! Each layout by positions in the whole APDU, `a0` its octet 0. -/

section
variable (a0 : Byte)

theorem confirmedRequestKey_eq (seg : Bool) (a : List Byte) :
    confirmedRequestKey seg a =
      if (a0 :: a).length < (if seg then 6 else 4) then none
      else some ((a0 :: a).getD 2 0, if seg then (a0 :: a).getD 5 0 else (a0 :: a).getD 3 0) := by
  cases seg with
  | false =>
    match a with
    | [] | [_] | [_, _] | _ :: _ :: _ :: _ => simp [confirmedRequestKey]
  | true =>
    match a with
    | [] | [_] | [_, _] | [_, _, _] | [_, _, _, _] | _ :: _ :: _ :: _ :: _ :: _ => simp [confirmedRequestKey]

theorem simpleAckKey_eq (a : List Byte) :
    simpleAckKey a =
      if (a0 :: a).length < 3 then none else some ((a0 :: a).getD 1 0, some ((a0 :: a).getD 2 0)) := by
  match a with
  | [] | [_] | _ :: _ :: _ => simp [simpleAckKey]

theorem complexAckKey_eq (seg : Bool) (a : List Byte) :
    complexAckKey seg a =
      if (a0 :: a).length < (if seg then 5 else 3) then none
      else some ((a0 :: a).getD 1 0, some (if seg then (a0 :: a).getD 4 0 else (a0 :: a).getD 2 0)) := by
  cases seg with
  | false =>
    match a with
    | [] | [_] | _ :: _ :: _ => simp [complexAckKey]
  | true =>
    match a with
    | [] | [_] | [_, _] | [_, _, _] | _ :: _ :: _ :: _ :: _ => simp [complexAckKey]

theorem invokeOnlyKey_eq (a : List Byte) :
    invokeOnlyKey a = if (a0 :: a).length < 2 then none else some ((a0 :: a).getD 1 0, none) := by
  match a with
  | [] | _ :: _ => simp [invokeOnlyKey]

end

/-! ## `MATCH` and `CORRELATE` (R324 to R327) -/

section
variable {s : State} {e : Entry} {d p : List Byte} {src dst : Byte} {nr : Npdu}

/-- The model's test of a request's PDU against a reply whose header and key are known, conjunct by conjunct. -/
theorem matchPdu_eq_true_iff {ir : Byte} {sr : Option Byte} :
    matchPdu e d nr (ir, sr) src dst s = true ↔
      ∃ nq iq sq, npduParse d = some nq ∧ nq.nlm = false ∧ nr.nlm = false ∧ nq.version = nr.version ∧
        apduKeyRequest nq.apdu = some (iq, sq) ∧ iq = ir ∧ (sr = none ∨ sr = some sq) ∧
        e.destination_mac = src ∧ dst = s.this_station ∧ nq.dst = nr.src ∧ nq.src = nr.dst := by
  unfold matchPdu
  cases npduParse d with
  | none => simp
  | some nq =>
    cases hkey : apduKeyRequest nq.apdu with
    | none => simp [hkey]
    | some request =>
      obtain ⟨iq, sq⟩ := request
      simp [hkey, addrAgree, keysAgree, and_assoc, and_comm, and_left_comm]

/-- Only a reply with a readable header and key can match (R325). -/
theorem Matches.reply (h : Matches s e p src dst) :
    ∃ nr reply, npduParse p = some nr ∧ apduKeyReply nr.apdu = some reply := by
  obtain ⟨d, nq, nr, iq, sq, ir, sr, -, -, -, hnr, -, -, -, -, hkey, -⟩ := h
  exact ⟨nr, (ir, sr), hnr, hkey⟩

theorem Matches.expects_reply (h : Matches s e p src dst) : e.expects_reply = true := by
  obtain ⟨_, _, _, _, _, _, _, her, -⟩ := h
  exact her

variable {reply : ReplyKey} (hnr : npduParse p = some nr) (hkey : apduKeyReply nr.apdu = some reply)
include hnr hkey

theorem matches_iff_matchPdu (her : e.expects_reply = true) (hd : PayloadIs s.cfg e d) :
    Matches s e p src dst ↔ matchPdu e d nr reply src dst s = true := by
  obtain ⟨ir, sr⟩ := reply
  rw [matchPdu_eq_true_iff]
  constructor
  · rintro ⟨d', nq, nr', iq, sq, ir', sr', -, hd', hnq, hnr', hq, hr, hv, hrequest, hreply, hmatch⟩
    cases Except.ok.inj (hd'.symm.trans hd)
    cases Option.some.inj (hnr'.symm.trans hnr)
    cases Option.some.inj (hreply.symm.trans hkey)
    exact ⟨nq, iq, sq, hnq, hq, hr, hv, hrequest, hmatch⟩
  · rintro ⟨nq, iq, sq, hnq, hq, hr, hv, hrequest, hmatch⟩
    exact ⟨d, nq, nr, iq, sq, ir, sr, her, hd, hnq, hnr, hq, hr, hv, hrequest, hkey, hmatch⟩

/-- `MATCH` of an entry whose PDU can be read where one is expected gives the verdict of R325. -/
theorem matchEntry_eq_ok [Decidable (Matches s e p src dst)]
    (hread : e.expects_reply = true → ∃ d, PayloadIs s.cfg e d) :
    matchEntry e nr reply src dst s = .ok (decide (Matches s e p src dst)) := by
  unfold matchEntry
  cases her : e.expects_reply with
  | false =>
    have hno : ¬ Matches s e p src dst := fun h => by simp [h.expects_reply] at her
    simp [hno]
  | true =>
    obtain ⟨d, hd⟩ := hread her
    simp [matches_iff_matchPdu hnr hkey her hd, show octetsOf e.payload s.cfg.maxPdu e.length.toNat = .ok d from hd]

end

/-- The scan answers the position of the first entry whose verdict is true, counted from where it starts. -/
theorem scan_eq_findIdx? {nr : Npdu} {reply : ReplyKey} {src dst : Byte} {s : State} {verdict : Entry → Bool} :
    ∀ (es : List Entry) (k : Nat), (∀ e ∈ es, matchEntry e nr reply src dst s = .ok (verdict e)) →
      scan nr reply src dst s k es = .ok ((es.findIdx? verdict).map (k + ·))
  | [], k, _ => rfl
  | e :: es, k, h => by
    obtain ⟨he, hes⟩ := List.forall_mem_cons.mp h
    rw [scan, he, List.findIdx?_cons]
    cases hv : verdict e with
    | true => rfl
    | false =>
      simp [scan_eq_findIdx? es (k + 1) hes, Function.comp_def, Nat.add_assoc, Nat.add_comm 1]

/-- `CORRELATE` is the search for the first entry that matches. -/
theorem correlate_eq_findIdx? {s : State} (p : List Byte) (src dst : Byte) [∀ e, Decidable (Matches s e p src dst)]
    (hread : ∀ e, e ∈ s.q → e.expects_reply = true → ∃ d, PayloadIs s.cfg e d) :
    correlate p src dst s = .ok (s.q.findIdx? fun e => decide (Matches s e p src dst)) := by
  by_cases hreply : ∃ nr reply, npduParse p = some nr ∧ apduKeyReply nr.apdu = some reply
  · obtain ⟨nr, reply, hnr, hkey⟩ := hreply
    have hscan := scan_eq_findIdx? s.q 0 fun e he => matchEntry_eq_ok (src := src) (dst := dst) hnr hkey (hread e he)
    rw [correlate, pduKeyReply, hnr, Option.bind_some, hkey, correlateKey, hscan]
    simp
  · have hnone : (s.q.findIdx? fun e => decide (Matches s e p src dst)) = none :=
      List.findIdx?_eq_none_iff.mpr fun e _ => decide_eq_false fun h => hreply h.reply
    rw [hnone, correlate, pduKeyReply]
    cases hnr : npduParse p with
    | none => rfl
    | some nr =>
      cases hkey : apduKeyReply nr.apdu with
      | none => rw [Option.bind_some, hkey]; rfl
      | some reply => exact absurd ⟨nr, reply, hnr, hkey⟩ hreply

/-! ## The rows that run it (R320; entry 12) -/

theorem correlating_eq_true_iff {s : State} :
    correlating s = true ↔
      isMaster s = true ∧ s.master_state = .waitForReply ∧ s.valid_frame = true ∧ s.rx_frame_type = ftDner ∧
        s.rx_destination = s.this_station := by
  simp [correlating, forUs, and_assoc]

/-- An APDU row takes its key by its own layout. -/
theorem exec_apdu {i : Instr} (h : i.position = .apdu) (s : State) : exec i s = apduStep (replyKeyOf i) s := by
  cases i <;> cases h <;> rfl

theorem exec_pdu_of_not_correlating {i : Instr} {s : State} (hi : ¬ isFrame i) (hc : correlating s = false) :
    exec i s = .next s := by
  obtain ⟨found, hexec⟩ := exec_pdu hi
  rw [hexec, if_neg (by simp [hc])]

section
variable {s : State} (hc : correlating s = true)
include hc

theorem apduStep_of_candidate {p : List Byte} (hin : InputIs s s.rx_data_length p)
    (keyOf : List Byte → Option ReplyKey) :
    apduStep keyOf s = correlateWith (npduParse p) ((npduParse p).bind fun n => keyOf n.apdu.tail) s := by
  rw [apduStep, if_pos hc, withInput_of_inputIs hin]

/-- A type that is no reply has no key, so nothing matches (R323). -/
theorem apduStep_of_no_key {p : List Byte} (hin : InputIs s s.rx_data_length p) :
    apduStep (fun _ => none) s = .next { s with valid_frame := false, more_work := false } := by
  rw [apduStep_of_candidate hc hin]
  cases npduParse p <;> rfl

theorem exec_decodeApdu_of_candidate {p a : List Byte} {nr : Npdu} {a0 : Byte} (hin : InputIs s s.rx_data_length p)
    (hnr : npduParse p = some nr) (hapdu : nr.apdu = a0 :: a) :
    exec (decodeApdu a0) s = correlateWith (npduParse p) (pduKeyReply p) s := by
  rw [exec_apdu (position_decodeApdu a0), apduStep_of_candidate hc hin, pduKeyReply, hnr, Option.bind_some,
    Option.bind_some, hapdu]
  rfl

theorem exec_decodeNpduControl_of_candidate {v c : Byte} {rest : List Byte}
    (hin : InputIs s s.rx_data_length (v :: c :: rest)) :
    exec (decodeNpduControl c) s = correlateWith (npduParse (v :: c :: rest)) (pduKeyReply (v :: c :: rest)) s :=
  (if_pos hc).trans (withInput_of_inputIs hin _)

/-- NODE fetches the DNER of the candidate reply, and its step is the same correlation (43 R257, R258). -/
theorem exec_fetch_of_candidate {p : List Byte} (hin : InputIs s s.rx_data_length p) :
    exec (fetch s) s = correlateWith (npduParse p) (pduKeyReply p) s := by
  obtain ⟨hm, hs, hv, hft, hdst⟩ := correlating_eq_true_iff.mp hc
  rw [fetch, hft]
  exact (nodeReact_waitForReply_valid _ hm hs hv).trans
    ((if_pos (forUs_eq_true_iff.mpr hdst)).trans (correlateFrame_of_inputIs hin _ _))

end

end Sys2Proof.Machine
end

section
/-!
The obligations about the Reply Correlator (46_reply_correlator.md).
-/

namespace Sys2Proof.Machine.ReplyCorrelator

/-- Settles O50: `NPDU_PARSE` part by part, and each APDU type's layout. -/
theorem correlatorDecodesByIndex : Obligations.CorrelatorDecodesByIndex := by
  refine ⟨npduParse_eq_npduParseByIndex, fun a => ?request, fun a => ?reply⟩
  case request =>
    match a with
    | [] => rfl
    | a0 :: a =>
      have hlen : ¬ (a0 :: a).length < 1 := Nat.not_lt.mpr (Nat.le_add_left 1 a.length)
      rw [apduKeyRequest_cons, confirmedRequestKey_eq a0]
      by_cases htype : a0.toNat / 16 = 0
      · rw [if_pos htype]
        exact (if_neg (not_or.mpr ⟨hlen, not_not.mpr htype⟩)).symm
      · rw [if_neg htype]
        exact (if_pos (.inr htype)).symm
  case reply =>
    match a with
    | [] => rfl
    | a0 :: a =>
      have hlen : ¬ (a0 :: a).length < 1 := Nat.not_lt.mpr (Nat.le_add_left 1 a.length)
      rw [apduKeyReply_cons, simpleAckKey_eq a0, complexAckKey_eq a0, invokeOnlyKey_eq a0]
      exact (if_neg hlen).symm

/-- Settles O51: the search for the first entry that matches, and what such a search finds. -/
theorem correlateFirstMatch : Obligations.CorrelateFirstMatch := by
  classical
  intro s p src dst hread
  rw [correlate_eq_findIdx? p src dst hread]
  refine ⟨fun k => ?found, ?none⟩
  case found =>
    simp only [Except.ok.injEq, List.findIdx?_eq_some_iff_getElem, decide_eq_true_iff]
    constructor
    · rintro ⟨hk, hmatch, hfirst⟩
      refine ⟨⟨_, List.getElem?_eq_getElem hk, hmatch⟩, fun j e hj he => ?_⟩
      obtain ⟨-, rfl⟩ := List.getElem?_eq_some_iff.mp he
      exact hfirst j hj
    · rintro ⟨⟨e, he, hmatch⟩, hfirst⟩
      obtain ⟨hk, rfl⟩ := List.getElem?_eq_some_iff.mp he
      exact ⟨hk, hmatch, fun j hj => hfirst j _ hj (List.getElem?_eq_getElem (hj.trans hk))⟩
  case none => simp only [Except.ok.injEq, List.findIdx?_eq_none_iff, decide_eq_false_iff_not]

/-- Settles O5: the frame row and both PDU rows run the one correlation of the candidate reply. -/
theorem correlatorRunsDecoded : Obligations.CorrelatorRunsDecoded := by
  intro s p hc hin
  rw [exec_fetch_of_candidate hc hin]
  refine ⟨fun v c i rest hp hdecode => ?_, fun nr i rest hnr hdecode => ?_⟩
  · subst hp
    cases c with
    | nil => cases hdecode
    | cons control after =>
      cases hdecode
      exact (exec_decodeNpduControl_of_candidate hc hin).symm
  · cases hapdu : nr.apdu with
    | nil => rw [hapdu] at hdecode; cases hdecode
    | cons a0 a =>
      rw [hapdu] at hdecode
      cases hdecode
      exact (exec_decodeApdu_of_candidate hc hin hnr hapdu).symm

/-- Settles O49: the one correlation and its verdict; a type with no key has none, and no other state runs it. -/
theorem pduRowsCorrelate : Obligations.PduRowsCorrelate := by
  refine ⟨fun i s p hc hin hrow => ?_, fun s p hc hin => ?_, fun i s => exec_pdu_of_not_correlating⟩
  · have hexec : exec i s = finishCorrelation s.rx_source s.rx_data_length
        (correlate p s.rx_source s.rx_destination s) s := by
      obtain ⟨v, c, rest, rfl, rfl⟩ | ⟨nr, a0, a, hnr, hapdu, rfl⟩ := hrow
      · exact exec_decodeNpduControl_of_candidate hc hin
      · exact exec_decodeApdu_of_candidate hc hin hnr hapdu
    rw [hexec]
    refine ⟨fun k hk => ?_, fun hnone => ?_⟩
    · rw [hk, finishCorrelation_found hin]
    · rw [hnone]
      rfl
  · have hnone := apduStep_of_no_key hc hin
    exact ⟨fun _ _ _ _ => hnone, fun _ => hnone, fun _ => hnone⟩

end Sys2Proof.Machine.ReplyCorrelator
end

section
/-!
SUPPORT. What the operations at the block's boundary do (47_external_interfaces.md R351 to R361, R364, R366): one lemma
per branch.
-/

namespace Sys2Proof.Machine

variable {s : State}

/-! ## SEND (R351) -/

theorem sendMac_of_malformed {dest : BacnetAddress} (h : 1 < dest.mac_len.toNat) : sendMac dest = none := by
  rw [sendMac, if_neg (by bv_omega), if_neg (by bv_omega)]

theorem sendMac_of_wellFormed {dest : BacnetAddress} (h : dest.mac_len.toNat ≤ 1) :
    sendMac dest = some (if dest.mac_len = 0 then 255 else dest.mac.first) := by
  by_cases hlen : dest.mac_len = 0
  · rw [sendMac, if_pos hlen, if_pos hlen]
    rfl
  · rw [sendMac, if_neg hlen, if_neg hlen, if_pos (by bv_omega)]

theorem send_of_malformed {dest : BacnetAddress} (h : sendMac dest = none) (pdu : List Byte) (er : Bool) :
    send dest pdu er s = .next { s with host_result := .bytesAccepted 0 } := by
  rw [send, h]

theorem send_of_not_accepts {pdu : List Byte} (h : ¬ enqueueAccepts pdu s = true) (dest : BacnetAddress) (er : Bool) :
    send dest pdu er s = .next { s with host_result := .bytesAccepted 0 } := by
  unfold send
  split
  · rfl
  · rw [qEnqueue_of_not_accepts h]
    rfl

theorem send_of_accepts {dest : BacnetAddress} {m : Byte} (hm : sendMac dest = some m) {pdu : List Byte}
    (h : enqueueAccepts pdu s = true) (er : Bool) :
    send dest pdu er s = .next { s with
      q := s.q ++ [newEntry m pdu (er && decide (m ≠ 255))], host_result := .bytesAccepted pdu.length } := by
  have hreply : (m != Config.broadcastMac) = decide (m ≠ 255) := (decide_not ..).symm
  rw [send, hm]
  dsimp only
  rw [qEnqueue_of_accepts h, hreply]
  rfl

/-! ## RECEIVE (R352) and receive(timeout_ms) (R353) -/

theorem takePacket_of_full {p : List Byte} (hr : s.rp_ready = true)
    (hp : octetsOf s.rp_payload s.cfg.maxPdu s.rp_length.toNat = .ok p) (after : Option Nat) :
    takePacket after s = .next { s with
      rp_ready := false, receive_left := after, host_result := .packet (some (s.rp_address, p)) } := by
  rw [takePacket, if_pos hr, withOctets, hp]

theorem takePacket_of_empty (hr : s.rp_ready = false) (after : Option Nat) :
    takePacket after s = .next { s with receive_left := after, host_result := .packet none } := by
  rw [takePacket, hr]
  rfl

theorem receiveCall_of_full_or_zero {timeout : Nat} (h : s.rp_ready = true ∨ timeout = 0) :
    receiveCall timeout s = takePacket none s :=
  if_pos (by rcases h with h | h <;> simp [h])

theorem receiveCall_of_empty {timeout : Nat} (hr : s.rp_ready = false) (ht : 1 ≤ timeout) :
    receiveCall timeout s = .next { s with receive_left := some (min timeout 1000), host_result := .waiting } := by
  have hwait : ¬ min timeout 1000 = 0 := by omega
  simp [receiveCall, Config.receiveTimeoutMax, hr, hwait]

theorem receiveRetry_of_full_or_zero {left : Nat} (hleft : s.receive_left = some left)
    (h : s.rp_ready = true ∨ left = 0) : receiveRetry s = takePacket none s := by
  rw [receiveRetry, hleft]
  exact if_pos (by rcases h with h | h <;> simp [h])

theorem receiveRetry_of_empty {left : Nat} (hleft : s.receive_left = some (left + 1)) (hr : s.rp_ready = false) :
    receiveRetry s = .next s := by
  rw [receiveRetry, hleft]
  exact if_neg (by simp [hr])

/-! ## The accessors (R354 to R359) and the address constructors (R360, R361) -/

theorem acceptsMacAddress_eq_true_iff {a : Byte} :
    acceptsMacAddress a s = true ↔ a.toNat ≤ 254 ∧ (127 < a.toNat ∨ a.toNat ≤ s.max_master.toNat) := by
  simp only [acceptsMacAddress, Bool.and_eq_true, Bool.or_eq_true, decide_eq_true_eq]

theorem acceptsMaxMaster_eq_true_iff {m : Byte} :
    acceptsMaxMaster m s = true ↔
      m.toNat ≤ 127 ∧ (127 < s.this_station.toNat ∨ s.this_station.toNat ≤ m.toNat) := by
  simp only [acceptsMaxMaster, Bool.and_eq_true, Bool.or_eq_true, decide_eq_true_eq]

theorem setMacAddress_of_accepts {a : Byte} (h : acceptsMacAddress a s = true) (hne : a ≠ s.this_station) :
    setMacAddress a s = { s with this_station := a, master_state := .idle, host_result := .nothing } :=
  if_pos (Bool.and_eq_true_iff.mpr ⟨h, bne_iff_ne.mpr hne⟩)

theorem setMacAddress_of_not_accepts_or_eq {a : Byte} (h : ¬ acceptsMacAddress a s = true ∨ a = s.this_station) :
    setMacAddress a s = { s with host_result := .nothing } := by
  refine if_neg fun hwrites => ?_
  obtain ⟨hok, hne⟩ := Bool.and_eq_true_iff.mp hwrites
  exact h.elim (absurd hok) (bne_iff_ne.mp hne)

/-- Every octet of an address array after the first is 0. -/
theorem eq_zero_of_mem_macOctets_rest {c : Config} {first first' b : Byte}
    (h : b ∈ (macOctets c first).rest ++ (macOctets c first').rest) : b = 0 :=
  (List.mem_append.mp h).elim List.eq_of_mem_replicate List.eq_of_mem_replicate

/-! ## DELIVER (R364) -/

theorem delivered_of_full_or_no_data {src : Byte} {data : List Byte} (h : s.rp_ready = true ∨ data.length = 0) :
    delivered src data s = s := by
  refine if_neg fun hd => ?_
  obtain ⟨hempty, hpos⟩ := hd
  rcases h with hfull | hnone
  · exact absurd hfull (by rw [hempty]; decide)
  · omega

theorem delivered_of_empty {src : Byte} {data : List Byte} (hr : s.rp_ready = false) (hd : 1 ≤ data.length) :
    delivered src data s = { s with
      rp_address := fillAddress s.cfg src
      rp_payload := s.rp_payload.writeSeq 0 data
      rp_length := BitVec.ofNat 16 data.length
      rp_ready := true } :=
  if_pos ⟨hr, hd⟩

/-! ## PORT_TX (R366) -/

theorem portTx_of_cons {b : Byte} {rest : List Byte} (h : s.tx_stream = b :: rest) :
    portTx s = { s with tx_stream := rest } := by
  rw [portTx, h]
  rfl

end Sys2Proof.Machine
end

section
/-!
The obligations about the external interfaces (47_external_interfaces.md).
-/

namespace Sys2Proof.Machine.ExternalInterfaces

/-- Settles O43: the slot after DELIVER is `delivered`, octet by octet what `writeSeq` copied from index 0 on. -/
theorem deliverSlot : Obligations.DeliverSlot := by
  intro s src len data hin
  have hlen : data.length = len.toNat := length_of_octetsOf hin
  refine ⟨_, deliver_of_inputIs hin src, fun hfull => ?full, fun hempty hne => ?empty⟩
  case full =>
    exact delivered_of_full_or_no_data (hfull.imp_right fun h => by rw [hlen, h]; rfl)
  case empty =>
    rw [delivered_of_empty hempty (by rw [hlen]; bv_omega), hlen, BitVec.ofNat_toNat, BitVec.setWidth_eq]
    refine ⟨rfl, rfl, rfl, fun a ha => ?_, fun a ha => ?_, rfl⟩
    · exact (Memory.read_writeSeq ..).trans (if_pos ⟨Nat.zero_le a, by omega⟩)
    · exact Memory.read_writeSeq_outside _ (by omega)

/-- Settles O56: the destination is checked first, then the queue and the PDU. -/
theorem sendSpec : Obligations.SendSpec := by
  intro s dest pdu er
  refine ⟨fun hrefused => ?_, fun hdest hroom hpos hfits => ?_⟩
  · by_cases hacc : enqueueAccepts pdu s = true
    · obtain ⟨hroom, hpos, hfits⟩ := enqueueAccepts_eq_true_iff.mp hacc
      exact send_of_malformed (sendMac_of_malformed (by omega)) pdu er
    · exact send_of_not_accepts hacc dest er
  · exact send_of_accepts (sendMac_of_wellFormed hdest) (enqueueAccepts_eq_true_iff.mpr ⟨hroom, hpos, hfits⟩) er

/-- Settles O57: each of the three calls is one `takePacket`, but for a wait that begins or goes on. -/
theorem receiveSpec : Obligations.ReceiveSpec := by
  intro s
  refine ⟨fun p hr hp => ⟨takePacket_of_full hr hp _, fun timeout => ?call, fun left hleft => ?retry⟩, fun hr =>
    ⟨takePacket_of_empty hr _, ?poll, fun timeout => receiveCall_of_empty hr,
      fun left hleft => receiveRetry_of_empty hleft hr, fun hleft => ?ends⟩⟩
  case call => exact (receiveCall_of_full_or_zero (.inl hr)).trans (takePacket_of_full hr hp none)
  case retry => exact (receiveRetry_of_full_or_zero hleft (.inl hr)).trans (takePacket_of_full hr hp none)
  case poll => exact (receiveCall_of_full_or_zero (.inr rfl)).trans (takePacket_of_empty hr none)
  case ends => exact (receiveRetry_of_full_or_zero hleft (.inr rfl)).trans (takePacket_of_empty hr none)

/-- Settles O58: each accessor writes when its rule accepts, and each read returns what the state holds. -/
theorem accessors : Obligations.Accessors := by
  intro s
  refine ⟨fun a => ?mac, fun m => ?maxMaster, fun n => ?maxInfoFrames, rfl, rfl, rfl,
    ⟨_, rfl, rfl, rfl, rfl, rfl, rfl, fun _ => eq_zero_of_mem_macOctets_rest⟩,
    fun mac => ⟨_, rfl, rfl, rfl, rfl, rfl, rfl, fun _ => eq_zero_of_mem_macOctets_rest⟩⟩
  case mac =>
    exact ⟨fun hok hne => congrArg _ (setMacAddress_of_accepts (acceptsMacAddress_eq_true_iff.mpr hok) hne),
      fun h => congrArg _ (setMacAddress_of_not_accepts_or_eq (h.imp_left (mt acceptsMacAddress_eq_true_iff.mp)))⟩
  case maxMaster =>
    exact ⟨fun hok => congrArg _ (if_pos (acceptsMaxMaster_eq_true_iff.mpr hok)),
      fun hok => congrArg _ (if_neg (mt acceptsMaxMaster_eq_true_iff.mp hok))⟩
  case maxInfoFrames =>
    exact ⟨fun hn => congrArg _ (if_pos hn), fun hn => congrArg _ (if_neg (by rw [hn]; decide))⟩

/-- Settles O60: the port's two steps, and that RX at rest re-arms or does nothing. -/
theorem portSteps : Obligations.PortSteps := by
  refine ⟨fun s b => rfl, fun s b rest hs => congrArg _ (portTx_of_cons hs), fun s t hrest ht => ?_⟩
  obtain rfl : rxStep s = t := by injection ht
  rw [rxStep_of_rest hrest]
  split <;> rfl

end Sys2Proof.Machine.ExternalInterfaces
end

section
/-!
SUPPORT. Progress (60_exceptions.md R380): from a state of the invariant every event answers with a next state. Three reads
could fault and one answer could be refused; the invariant has the octets of a valid frame, of each queue entry and of the
packet in the slot written within bounds, and the upper layer's coming replies within their contract.
-/

namespace Sys2Proof.Machine

/-! ## Results that are next states -/

/-- `r` is a next state: no fault, no refusal. -/
def Answers (r : Result) : Prop := ∃ t, r = .next t

theorem answers_next (s : State) : Answers (.next s) := ⟨s, rfl⟩

theorem answers_nodeDone (more : Bool) (s : State) : Answers (nodeDone more s) := ⟨_, rfl⟩

theorem Answers.ite {c : Prop} [Decidable c] {r r' : Result} (h : Answers r) (h' : Answers r') :
    Answers (if c then r else r') := by split <;> assumption

theorem Answers.andThen {r : Result} {k : State → Result} (hr : Answers r) (hk : ∀ u, Answers (k u)) :
    Answers (andThen r k) := by
  obtain ⟨u, rfl⟩ := hr
  exact hk u

section
variable {s : State}

theorem answers_byFlag {v n i q : State → Result} (hv : s.valid_frame = true → Answers (v s)) (hn : Answers (n s))
    (hi : Answers (i s)) (hq : Answers (q s)) : Answers (byFlag v n i q s) := by
  rcases byFlag_cases v n i q s with ⟨h, e⟩ | ⟨-, -, e⟩ | ⟨-, -, -, e⟩ | ⟨-, e⟩ <;> rw [e]
  · exact hv h
  · exact hn
  · exact hi
  · exact hq

/-! ## The octets the rules read -/

/-- The data of a valid frame can be read (10_state.md R35). -/
theorem Inv.exists_inputIs (h : Inv s) (hv : s.valid_frame = true) : ∃ data, InputIs s s.rx_data_length data := by
  obtain ⟨data, hdata, -⟩ := exists_octetsOf (h.assembly.frame_fits hv) (h.assembly.frame_written hv)
  exact ⟨data, hdata⟩

/-- The PDU of a queue entry can be read (10_state.md R38). -/
theorem EntryInv.exists_payloadIs {c : Config} {e : Entry} (h : EntryInv c e) : ∃ d, PayloadIs c e d := by
  obtain ⟨d, hd, -⟩ := exists_octetsOf h.length_le h.written
  exact ⟨d, hd⟩

/-! ## The rules of NODE -/

theorem answer_answers (h : Inv s) {len : Half} {data : List Byte} (hin : InputIs s len data) (src : Byte) :
    Answers (answer src len s) := by
  cases hport : s.reply_port with
  | nil =>
    obtain ⟨r, -, he⟩ := answer_of_no_reply_port (src := src) hin hport
    exact ⟨_, he⟩
  | cons r rest =>
    have hcontract (d : List Byte) (hd : r = some d) : 1 ≤ d.length ∧ d.length ≤ s.cfg.maxPdu :=
      replyInContract_eq_true_iff.mp (h.host.replies d (by simp [hport, hd]))
    exact ⟨_, answer_of_reply_port hin hport hcontract⟩

/-- The correlation finds an entry or none, and reads each entry's PDU on the way (46_reply_correlator.md R327). -/
theorem correlateFrame_answers (h : Inv s) {len : Half} {data : List Byte} (hin : InputIs s len data)
    (dst src : Byte) : Answers (correlateFrame dst src len s) := by
  classical
  rw [correlateFrame_of_inputIs hin,
    correlate_eq_findIdx? data src dst fun e he _ => (h.queue.entries e he).exists_payloadIs]
  cases s.q.findIdx? fun e => decide (Matches s e data src dst) with
  | none => exact answers_nodeDone ..
  | some k => exact ⟨_, finishCorrelation_found hin src k⟩

theorem takeToken_answers (s : State) : Answers (takeToken s) := answers_nodeDone ..

theorem pollStation_answers (p : Byte) (s : State) : Answers (pollStation p s) := answers_nodeDone ..

theorem leaveToIdle_answers (s : State) : Answers (leaveToIdle s) := answers_nodeDone ..

theorem dropFrame_answers (s : State) : Answers (dropFrame s) := answers_nodeDone ..

theorem idleQuiet_answers (s : State) : Answers (idleQuiet s) :=
  .ite (answers_nodeDone ..) (.ite (takeToken_answers _) (pollStation_answers ..))

theorem waitQuiet_answers (s : State) : Answers (waitQuiet s) :=
  .ite (answers_nodeDone ..) (answers_nodeDone ..)

theorem passToken_answers (s : State) : Answers (passToken s) :=
  .ite (answers_nodeDone ..) (answers_nodeDone ..)

theorem noTokenQuiet_answers (s : State) : Answers (noTokenQuiet s) :=
  .ite (.ite (takeToken_answers _) (pollStation_answers ..)) (.ite (answers_nodeDone ..) (answers_nodeDone ..))

theorem pollNext_answers (s : State) : Answers (pollNext s) :=
  .ite (takeToken_answers _) (pollStation_answers ..)

theorem pollQuiet_answers (s : State) : Answers (pollQuiet s) :=
  .ite (answers_nodeDone ..) (pollNext_answers s)

theorem useToken_answers (h : Inv s) : Answers (useToken s) := by
  by_cases hend : s.q = [] ∨ s.max_info_frames.toNat ≤ s.frame_count.toNat
  · exact ⟨_, useToken_of_end hend⟩
  · obtain ⟨hne, hcount⟩ := not_or.mp hend
    obtain ⟨e, rest, hq⟩ := List.exists_cons_of_ne_nil hne
    obtain ⟨d, hd⟩ := (h.queue.entries e (by simp [hq])).exists_payloadIs
    rw [useToken_of_cons hq (Nat.lt_of_not_le hcount) hd]
    exact .ite (answers_nodeDone ..) (answers_nodeDone ..)

theorem answerDataRequest_answers (h : Inv s) : Answers (answerDataRequest s) := by
  cases hv : s.valid_frame with
  | false => exact ⟨_, answerDataRequest_of_no_frame hv⟩
  | true =>
    obtain ⟨data, hin⟩ := h.exists_inputIs hv
    rw [answerDataRequest_of_valid hv]
    exact (answer_answers h hin _).andThen fun _ => answers_nodeDone ..

/-! ## The reactions to a frame type -/

/-- Each rule of the reaction answers next in `s`. -/
structure FrameReaction.AnswersIn (r : FrameReaction) (s : State) : Prop where
  slave : Answers (r.slave s)
  idle : Answers (r.idle s)
  waitForReply : Answers (r.waitForReply s)
  pollForMaster : Answers (r.pollForMaster s)

/-- A reaction is looked at only for a valid frame. -/
theorem nodeReact_answers (h : Inv s) {r : FrameReaction} (hr : s.valid_frame = true → r.AnswersIn s) :
    Answers (nodeReact r s) := by
  have hdropNotForUs : Answers (dropNotForUs s) := answers_nodeDone ..
  have hdropInvalid : Answers (dropInvalid s) := answers_nodeDone ..
  have hleave : Answers (leaveToIdle s) := leaveToIdle_answers s
  cases hm : isMaster s with
  | false =>
    rw [nodeReact_of_slave r hm]
    exact answers_byFlag (fun hv => (hr hv).slave) hdropNotForUs hdropInvalid (answers_nodeDone ..)
  | true =>
    rw [nodeReact_of_master r hm]
    cases hs : s.master_state with
    | idle =>
      rw [masterStep_idle r hs]
      exact answers_byFlag (fun hv => (hr hv).idle) hdropNotForUs hdropInvalid (idleQuiet_answers s)
    | useToken => rw [masterStep_useToken r hs]; exact useToken_answers h
    | waitForReply =>
      rw [masterStep_waitForReply r hs]
      exact answers_byFlag (fun hv => (hr hv).waitForReply) hdropNotForUs hdropInvalid (waitQuiet_answers s)
    | doneWithToken => rw [masterStep_doneWithToken r hs]; exact answers_nodeDone ..
    | passToken => rw [masterStep_passToken r hs]; exact passToken_answers s
    | noToken =>
      rw [masterStep_noToken r hs]
      exact answers_byFlag (fun _ => hleave) hleave hleave (noTokenQuiet_answers s)
    | pollForMaster =>
      rw [masterStep_pollForMaster r hs]
      exact answers_byFlag (fun hv => (hr hv).pollForMaster) hleave (pollNext_answers _) (pollQuiet_answers s)
    | answerDataRequest => rw [masterStep_answerDataRequest r hs]; exact answerDataRequest_answers h

/-- The row runs NODE_STEP with a reaction that answers next in `s`. -/
def ReactsIn (s : State) (i : Instr) : Prop := ∃ r : FrameReaction, exec i s = nodeReact r s ∧ r.AnswersIn s

theorem reactsIn_of_isIgnoredType {i : Instr} (h : isIgnoredType i) : ReactsIn s i :=
  ⟨_, exec_of_isIgnoredType h s, dropFrame_answers s, dropFrame_answers s, dropFrame_answers s, leaveToIdle_answers s⟩

section
variable (dst src : Byte) (len : Half) (hcrc : Byte)

theorem reactsIn_token : ReactsIn s (.token dst src len hcrc) :=
  ⟨_, rfl, dropFrame_answers s, .ite (takeToken_answers _) (dropFrame_answers s), dropFrame_answers s,
    leaveToIdle_answers s⟩

theorem reactsIn_pfm : ReactsIn s (.pfm dst src len hcrc) :=
  ⟨_, rfl, dropFrame_answers s, .ite (dropFrame_answers _) (dropFrame_answers s), dropFrame_answers s,
    leaveToIdle_answers s⟩

theorem reactsIn_rpfm : ReactsIn s (.rpfm dst src len hcrc) :=
  ⟨_, rfl, dropFrame_answers s, dropFrame_answers s, dropFrame_answers s,
    .ite (answers_nodeDone ..) (leaveToIdle_answers s)⟩

variable {len} {data : List Byte} (h : Inv s) (hin : InputIs s len data)
include h hin

theorem reactsIn_der : ReactsIn s (.der dst src len hcrc) := by
  have hdeliver : Answers (deliverFrame src len s) := ⟨_, deliverFrame_of_inputIs hin src⟩
  have hanswer : Answers (andThen (answer src len s) dropFrame) := (answer_answers h hin src).andThen dropFrame_answers
  exact ⟨_, rfl, .ite hanswer (.ite hdeliver (dropFrame_answers s)),
    .ite (answers_nodeDone ..) (.ite hdeliver (dropFrame_answers s)), dropFrame_answers s, leaveToIdle_answers s⟩

theorem reactsIn_dner : ReactsIn s (.dner dst src len hcrc) := by
  have hdeliver : Answers (deliverFrame src len s) := ⟨_, deliverFrame_of_inputIs hin src⟩
  have hcorrelate : Answers (correlateFrame dst src len s) := correlateFrame_answers h hin dst src
  exact ⟨_, rfl, .ite hdeliver (dropFrame_answers s), .ite hdeliver (dropFrame_answers s),
    .ite hcorrelate (dropFrame_answers s), leaveToIdle_answers s⟩

/-- Every row NODE can fetch reacts, the length operand being that of readable data. -/
theorem reactsIn_decodeHeader (ft : Byte) : ReactsIn s (decodeHeader ft dst src len hcrc) :=
  have ignored {i : Instr} (hi : isIgnoredType i) : ReactsIn s i := reactsIn_of_isIgnoredType hi
  decodeHeader_cases (motive := fun _ => ReactsIn s) dst src len hcrc (reactsIn_token ..) (reactsIn_pfm ..)
    (reactsIn_rpfm ..) (ignored trivial) (ignored trivial) (reactsIn_der _ _ _ h hin) (reactsIn_dner _ _ _ h hin)
    (ignored trivial) (fun _ => ignored trivial) (fun _ => ignored trivial) (fun _ => ignored trivial)
    (fun _ => ignored trivial) (fun _ => ignored trivial) ft

end

theorem nodeStep_answers (h : Inv s) : Answers (nodeStep s) := by
  cases hv : s.valid_frame with
  | true =>
    obtain ⟨data, hin⟩ := h.exists_inputIs hv
    obtain ⟨r, hexec, hr⟩ := reactsIn_decodeHeader s.rx_destination s.rx_source (fetchedHeaderCrc s) h hin
      s.rx_frame_type
    rw [nodeStep, fetch, hexec]
    exact nodeReact_answers h fun _ => hr
  | false =>
    obtain ⟨r, hexec⟩ := exec_frame (fetch s) (isFrame_fetch s)
    rw [nodeStep, hexec]
    exact nodeReact_answers h fun hv' => absurd (hv.symm.trans hv') (by decide)

/-! ## The boundary and the step -/

theorem send_answers (dest : BacnetAddress) (pdu : List Byte) (er : Bool) (s : State) :
    Answers (send dest pdu er s) := by
  unfold send
  split <;> exact answers_next _

/-- The packet in the slot can be read (10_state.md R39). -/
theorem takePacket_answers (h : Inv s) (after : Option Nat) : Answers (takePacket after s) := by
  cases hr : s.rp_ready with
  | false => exact ⟨_, takePacket_of_empty hr after⟩
  | true =>
    obtain ⟨p, hp, -⟩ := exists_octetsOf (h.slot.length_le hr) (h.slot.written hr)
    exact ⟨_, takePacket_of_full hr hp after⟩

theorem receiveCall_answers (h : Inv s) (timeout : Nat) : Answers (receiveCall timeout s) :=
  .ite (takePacket_answers h none) (answers_next _)

theorem receiveRetry_answers (h : Inv s) : Answers (receiveRetry s) := by
  unfold receiveRetry
  split
  · exact answers_next s
  · exact .ite (takePacket_answers h none) (answers_next s)

theorem runEvent_answers (e : Event) (h : Inv s) : Answers (runEvent e s) := by
  cases e
  case node => exact nodeStep_answers h
  case send dest pdu er => exact send_answers dest pdu er s
  case receive => exact takePacket_answers h s.receive_left
  case receiveCall timeout => exact receiveCall_answers h timeout
  case receiveRetry => exact receiveRetry_answers h
  -- The other events are functions of the state.
  all_goals exact answers_next _

theorem step_answers (h : Inv s) : Answers (step s) := runEvent_answers _ (inv_takeEvent h)

end

end Sys2Proof.Machine
end

section
/-!
SUPPORT. The order of steps along a run: an event leaves the agenda and the waits of RX and NODE alone, so an agenda is used
up, and then the wait of an agent that is passed over counts down to the step where the agent is due (20_memory.md R91,
47_external_interfaces.md R368; entry 2).
-/

namespace Sys2Proof.Machine

/-! ## The fields of the order of steps -/

/-- The fields that say which event comes next (entry 2). -/
def orderZone (s : State) := (s.agenda, s.turn, s.rx_wait, s.node_wait)

/-- No event, RESET included, touches the order of steps (entries 2 and 22). -/
theorem runEvent_orderZone (e : Event) (s : State) : Ensures (runEvent e s) fun t => orderZone t = orderZone s := by
  intro t ht
  cases runEvent_effect e s t ht
  case rx =>
    obtain ⟨ms, rest, -, hw⟩ := rxStep_writes s
    exact (congrArg orderZone hw.rest :)
  case node h => exact (congrArg orderZone h.rest :)
  case reset => rfl
  case setMacAddress a => rcases setMacAddress_cases a s with ⟨-, h⟩ | h <;> rw [h] <;> rfl
  case setMaxMaster m => rcases setMaxMaster_cases m s with ⟨-, h⟩ | h <;> rw [h] <;> rfl
  case setMaxInfoFrames n => rcases setMaxInfoFrames_cases n s with ⟨-, h⟩ | h <;> rw [h] <;> rfl
  case boundary h => exact (congrArg orderZone h :)

section
variable {s : State}

/-- A step under the invariant: the invariant is kept, and the order of steps is as the taken event leaves it. -/
theorem exists_step (h : Inv s) : ∃ u, step s = .next u ∧ Inv u ∧ orderZone u = orderZone (takeEvent s).2 := by
  obtain ⟨u, hu⟩ := step_answers h
  exact ⟨u, hu, stepKeepsInv s u h hu, runEvent_orderZone _ _ u hu⟩

theorem exists_step_of_agenda_cons {e : Event} {rest : List Event} (h : Inv s) (ha : s.agenda = e :: rest) :
    ∃ u, step s = .next u ∧ Inv u ∧ u.agenda = rest := by
  obtain ⟨u, hu, hinv, horder⟩ := exists_step h
  rw [takeEvent_of_agenda_cons ha] at horder
  exact ⟨u, hu, hinv, congrArg (·.1) horder⟩

/-- A free step: the agenda stays empty, and each wait goes on or ends. -/
theorem exists_step_of_agenda_nil (h : Inv s) (ha : s.agenda = []) :
    ∃ u, step s = .next u ∧ Inv u ∧ u.agenda = [] ∧
      u.rx_wait = waitNext (rxEnabled s && freeEvent s != .rx) (Config.rxPatience s.turn) s.rx_wait ∧
      u.node_wait = waitNext (freeEvent s != .node) (Config.nodePatience s.turn) s.node_wait := by
  obtain ⟨u, hu, hinv, horder⟩ := exists_step h
  rw [takeEvent_of_agenda_nil ha] at horder
  simp only [orderZone, Prod.mk.injEq] at horder
  obtain ⟨hagenda, -, hrx, hnode⟩ := horder
  exact ⟨u, hu, hinv, hagenda.trans ha, hrx, hnode⟩

/-! ## Runs -/

theorem run_of_step {u : State} (h : step s = .next u) (n : Nat) :
    Sys2Proof.core.run (n + 1) s = Sys2Proof.core.run n u := by
  have hstep : Sys2Proof.core.step s = .next u := h
  simp only [Host.Core.run, hstep]

theorem safeFrom_of_inv (h : Inv s) : SafeFrom s := by
  intro n
  induction n generalizing s with
  | zero => exact ⟨s, rfl⟩
  | succ n ih =>
    obtain ⟨u, hu, hinv, -⟩ := exists_step h
    rw [run_of_step hu]
    exact ih hinv

/-- After some number of steps from `s` the run is in a state that meets `P`. -/
def Reaches (P : State → Prop) (s : State) : Prop := ∃ n t, Sys2Proof.core.run n s = .next t ∧ P t

variable {P : State → Prop}

theorem Reaches.now (h : P s) : Reaches P s := ⟨0, s, rfl, h⟩

theorem Reaches.step {u : State} (hu : step s = .next u) (h : Reaches P u) : Reaches P s := by
  obtain ⟨n, t, hrun, ht⟩ := h
  exact ⟨n + 1, t, (run_of_step hu n).trans hrun, ht⟩

/-- It is enough to look at the free steps: an agenda is used up one event at a time. -/
theorem reaches_of_agenda_nil (hfree : ∀ s, Inv s → s.agenda = [] → Reaches P s) (h : Inv s) : Reaches P s := by
  induction ha : s.agenda generalizing s with
  | nil => exact hfree s h ha
  | cons e rest ih =>
    obtain ⟨u, hu, hinv, hrest⟩ := exists_step_of_agenda_cons h ha
    exact (ih hinv hrest).step hu

/-- The argument of weak fairness, for RX and NODE alike. `wait` is the wait of an agent that is passed over while `P` does
not hold: it counts down, and at 0 the agent is due, which brings `P` about. -/
theorem reaches_of_wait {wait : State → Option Nat}
    (due : ∀ s, Inv s → s.agenda = [] → wait s = some 0 → Reaches P s)
    (passed : ∀ s, Inv s → s.agenda = [] → ¬ P s →
      ∃ u p, step s = .next u ∧ Inv u ∧ u.agenda = [] ∧ wait u = waitNext true p (wait s))
    (h : Inv s) : Reaches P s := by
  have counted (k : Nat) : ∀ s, Inv s → s.agenda = [] → wait s = some k → Reaches P s := by
    induction k with
    | zero => exact due
    | succ k ih =>
      intro s h ha hw
      by_cases hP : P s
      · exact .now hP
      · obtain ⟨u, p, hu, hinv, hagenda, hwait⟩ := passed s h ha hP
        rw [hw, waitNext_goes_on, Nat.add_sub_cancel] at hwait
        exact (ih u hinv hagenda hwait).step hu
  refine reaches_of_agenda_nil (fun s h ha => ?_) h
  cases hw : wait s with
  | some k => exact counted k s h ha hw
  | none =>
    by_cases hP : P s
    · exact .now hP
    · obtain ⟨u, p, hu, hinv, hagenda, hwait⟩ := passed s h ha hP
      rw [hw, waitNext_begins] at hwait
      exact (counted p u hinv hagenda hwait).step hu

/-! ## NODE and RX come -/

theorem takeEvent_fst_of_agenda_nil (ha : s.agenda = []) : (takeEvent s).1 = freeEvent s := by
  rw [takeEvent_of_agenda_nil ha]

/-- Where NODE is due, it steps now, or RX, due as well, goes first and NODE is next. -/
theorem reaches_node_of_due (h : Inv s) (ha : s.agenda = []) (hw : s.node_wait = some 0) :
    Reaches (fun t => (takeEvent t).1 = .node) s := by
  rcases freeEvent_of_node_due hw with hnode | ⟨hrx, -⟩
  · exact .now ((takeEvent_fst_of_agenda_nil ha).trans hnode)
  · obtain ⟨u, hu, -, hagenda, hrxWait, hnodeWait⟩ := exists_step_of_agenda_nil h ha
    have hrxNone : u.rx_wait = none := by rw [hrxWait, hrx]; simp
    have hnodeDue : u.node_wait = some 0 := by rw [hnodeWait, hrx, hw]; rfl
    have hnode : freeEvent u = .node :=
      (freeEvent_of_node_due hnodeDue).resolve_right fun hboth => by simp [hrxNone] at hboth
    exact (Reaches.now ((takeEvent_fst_of_agenda_nil hagenda).trans hnode)).step hu

theorem reaches_node (h : Inv s) : Reaches (fun t => (takeEvent t).1 = .node) s := by
  refine reaches_of_wait (wait := State.node_wait) (fun s => reaches_node_of_due) (fun s h ha hne => ?_) h
  rw [takeEvent_fst_of_agenda_nil ha] at hne
  obtain ⟨u, hu, hinv, hagenda, -, hnodeWait⟩ := exists_step_of_agenda_nil h ha
  exact ⟨u, _, hu, hinv, hagenda, by rw [hnodeWait, bne_iff_ne.mpr hne]⟩

theorem reaches_rx (h : Inv s) : Reaches (fun t => (takeEvent t).1 = .rx ∨ rxEnabled t = false) s := by
  refine reaches_of_wait (wait := State.rx_wait) (fun s _ ha hw => .now ?_) (fun s h ha hne => ?_) h
  · cases he : rxEnabled s with
    | false => exact .inr rfl
    | true => exact .inl ((takeEvent_fst_of_agenda_nil ha).trans (freeEvent_of_rx_due he hw))
  · obtain ⟨hevent, henabled⟩ := not_or.mp hne
    rw [takeEvent_fst_of_agenda_nil ha] at hevent
    obtain ⟨u, hu, hinv, hagenda, hrxWait, -⟩ := exists_step_of_agenda_nil h ha
    have hpassed : (rxEnabled s && freeEvent s != .rx) = true := by simp [hevent, henabled]
    exact ⟨u, _, hu, hinv, hagenda, by rw [hrxWait, hpassed]⟩

/-- RX has no step: none of its three preconditions holds (42_receive_fsm.md R190). -/
theorem rxEnabled_eq_false_iff : rxEnabled s = false ↔
    rearmEnabled s = false ∧ abortEnabled s = false ∧ (rxReady s = false ∨ s.rx_stream = []) := by
  simp [rxEnabled, and_assoc, ← Bool.not_eq_true, ← imp_iff_not_or]

end

end Sys2Proof.Machine
end

section
/-!
The obligation about the absence of exceptions (60_exceptions.md): runs go on, and are fair to NODE and RX.
-/

namespace Sys2Proof.Machine

/-- Settles O10: under the invariant each event answers, and the wait of an agent that is passed over runs out. -/
theorem runsGoOnFairly : Obligations.RunsGoOnFairly := by
  refine ⟨fun s => step_answers, fun s => safeFrom_of_inv, fun s => reaches_node, fun s h => ?_⟩
  obtain ⟨n, t, hrun, hrx⟩ := reaches_rx h
  exact ⟨n, t, hrun, hrx.imp_right rxEnabled_eq_false_iff.mp⟩

end Sys2Proof.Machine
end

section
/-!
SUPPORT. Which events write `tx_stream`: NODE, which as a slave with the address 255 sends nothing (44_slave_fsm.md R293),
PORT_TX and RESET (47_external_interfaces.md R366, 70_reset_and_hazards.md R410).
-/

namespace Sys2Proof.Machine

section
variable {s t : State}

theorem Sends.tx_stream_eq (h : Sends s t) : t.tx_stream = s.tx_stream := by
  rcases h with ⟨result, rfl⟩ | ⟨dest, pdu, er, result, -, rfl⟩ <;> rfl

theorem Receives.tx_stream_eq (h : Receives s t) : t.tx_stream = s.tx_stream := by
  obtain ⟨ready, left, result, rfl, -, -⟩ := h
  rfl

theorem rxStep_tx_stream (s : State) : (rxStep s).tx_stream = s.tx_stream := by
  obtain ⟨ms, rest, -, hw⟩ := rxStep_writes s
  exact (congrArg State.tx_stream hw.rest :)

/-- RX, the clock, PORT_RX and the host's operations hand nothing to the port and take nothing from it. -/
theorem runEvent_tx_stream {e : Event} (hnode : e ≠ .node) (hportTx : e ≠ .portTx) (hreset : e ≠ .reset) (s : State) :
    Ensures (runEvent e s) fun t => t.tx_stream = s.tx_stream := by
  cases e
  case node => exact absurd rfl hnode
  case portTx => exact absurd rfl hportTx
  case reset => exact absurd rfl hreset
  case rx => exact ensures_next (rxStep_tx_stream s)
  case send dest pdu er => exact (send_sends dest pdu er s).mono fun _ => Sends.tx_stream_eq
  case receive => exact (receive_receives s).mono fun _ => Receives.tx_stream_eq
  case receiveCall timeout => exact (receiveCall_receives timeout s).mono fun _ => Receives.tx_stream_eq
  case receiveRetry => exact (receiveRetry_receives s).mono fun _ => Receives.tx_stream_eq
  case setMacAddress a => exact ensures_next (by rcases setMacAddress_cases a s with ⟨-, h⟩ | h <;> rw [h])
  case setMaxMaster m => exact ensures_next (by rcases setMaxMaster_cases m s with ⟨-, h⟩ | h <;> rw [h])
  case setMaxInfoFrames n => exact ensures_next (by rcases setMaxInfoFrames_cases n s with ⟨-, h⟩ | h <;> rw [h])
  -- TICK, PORT_RX, the accessors that read and the address constructors.
  all_goals exact ensures_next rfl

/-- An unconfigured block is a slave: 255 is above every legal `max_master` (70_reset_and_hazards.md R412). -/
theorem isMaster_of_unconfigured (hstation : s.this_station = 255) (hmax : s.max_master.toNat ≤ 127) :
    isMaster s = false := by
  have hlt : s.max_master.toNat < (255 : Byte).toNat := Nat.lt_of_le_of_lt hmax (by decide)
  rw [isMaster, hstation]
  exact decide_eq_false (Nat.not_le.mpr hlt)

/-- The one frame a slave sends answers a request for an own address other than 255 (44_slave_fsm.md R293). -/
theorem nodeStep_tx_stream_of_unconfigured (hstation : s.this_station = 255) (hmax : s.max_master.toNat ≤ 127) :
    Ensures (nodeStep s) fun t => t.tx_stream = s.tx_stream := by
  intro t ht
  have hends := exec_slaveEnds (isFrame_fetch s) (isMaster_of_unconfigured hstation hmax) t ht
  rcases hends.tx_stream with hsilent | ⟨f, ⟨src, len, hcrc, d, -, -, hunicast, -⟩, -⟩
  · exact hsilent
  · exact absurd hstation hunicast

end

end Sys2Proof.Machine
end

section
/-!
The obligation about the unconfigured block (70_reset_and_hazards.md).
-/

namespace Sys2Proof.Machine

/-- Settles O47: only NODE, PORT_TX and RESET write `tx_stream`, and NODE sends nothing as a slave with the address 255. -/
theorem unconfiguredIsSilent : Obligations.UnconfiguredIsSilent := by
  intro e s t hstation hmax ht
  by_cases hnode : e = .node
  · subst hnode
    exact .inl (nodeStep_tx_stream_of_unconfigured hstation hmax t ht)
  by_cases hportTx : e = .portTx
  · subst hportTx
    obtain rfl := Host.Outcome.next.inj ht
    exact .inr (.inl ⟨rfl, rfl⟩)
  by_cases hreset : e = .reset
  · subst hreset
    obtain rfl := Host.Outcome.next.inj ht
    exact .inr (.inr ⟨rfl, rfl⟩)
  · exact .inl (runEvent_tx_stream hnode hportTx hreset s t ht)

end Sys2Proof.Machine
end
